-- ==== Sys2Proof/Word.lean ====
section
/-! DEFINITION. The widths of spec/00_scope.md R7: nibbles (opcode latches, selectors), bytes (data path, memory cells)
and 16-bit words (general registers, addresses). Every value is unsigned (R14). -/

namespace Sys2Proof

/-- A 4-bit value: `I`, `N`, `P`, `X`, a register index (R7). -/
abbrev Nibble := BitVec 4

/-- An 8-bit value: `D`, `B`, `T`, `BUS`, a memory cell (R7). -/
abbrev Byte := BitVec 8

/-- A 16-bit value: a general register, an address (R7). -/
abbrev Word := BitVec 16

end Sys2Proof
end

