-- ==== Sys2Proof/Config.lean ====
section
/-! DEFINITION. What is fixed for every machine (spec/00_scope.md R7). The spec leaves no value undefined, so there is no
free value here; the two parameters of R8 are held in the state (`branchIoExt`, and the memory at the first `run`). -/

namespace Sys2Proof.Config

/-- The number of memory cells: "memory, 65,536 bytes" (R7, R60). -/
def memBytes : Nat := 65536

/-- What a cell that nothing has written reads as: 0x00, the power-on content of every cell (R43, R75; log 11). -/
def unlistedByte : Byte := 0x00

/-- The number of external flags, `EF1` to `EF4` (R7, R31). -/
def flagCount : Nat := 4

end Sys2Proof.Config
end

