-- ==== Sys2Proof/Syntax.lean ====
section
/-! DEFINITION. The instructions: one constructor per row of spec/opcode_table.json (40 rows of spec/30_encoding.md R94 and
18 of the optional profile, spec/48_ext_branch_io.md R301). Operands: `n` a register index or literal (format REG), `imm` the
operand byte (format IMM), `aa` a branch target's low byte, `dev` a device number (R91, R301). -/

namespace Sys2Proof

/-- One instruction (R94, R301); for format IMM the operand byte stands in it (R91, log 6). -/
inductive Instr where
  /-- IDL, opcode 0x00/0xFF: idle: BUS <- M[R[0]], stay in Execute (R160). -/
  | idl
  /-- LDN, opcode 0x00/0xF0: D <- M[R[N]], N = 1..15 (R161). -/
  | ldn (n : Nibble)
  /-- INC, opcode 0x10/0xF0: R[N] <- R[N] + 1 (R170). -/
  | inc (n : Nibble)
  /-- DEC, opcode 0x20/0xF0: R[N] <- R[N] - 1 (R171). -/
  | dec (n : Nibble)
  /-- STR, opcode 0x50/0xF0: M[R[N]] <- D (R192). -/
  | str (n : Nibble)
  /-- LDXA, opcode 0x72/0xFF: D <- M[R[X]], R[X] + 1 (R191). -/
  | ldxa
  /-- STXD, opcode 0x73/0xFF: M[R[X]] <- D, R[X] - 1 (R193). -/
  | stxd
  /-- ADC, opcode 0x74/0xFF: D + M[R[X]] + DF (R213). -/
  | adc
  /-- SDB, opcode 0x75/0xFF: M[R[X]] - D - borrow (R218). -/
  | sdb
  /-- SHRC, opcode 0x76/0xFF: rotate right through DF (R247). -/
  | shrc
  /-- SMB, opcode 0x77/0xFF: D - M[R[X]] - borrow (R222). -/
  | smb
  /-- REQ, opcode 0x7A/0xFF: Q <- 0 (R263). -/
  | req
  /-- SEQ, opcode 0x7B/0xFF: Q <- 1 (R262). -/
  | seq
  /-- ADCI, opcode 0x7C/0xFF: D + imm8 + DF (R214). -/
  | adci (imm : Byte)
  /-- SDBI, opcode 0x7D/0xFF: imm8 - D - borrow (R219). -/
  | sdbi (imm : Byte)
  /-- SHLC, opcode 0x7E/0xFF: rotate left through DF (R249). -/
  | shlc
  /-- SMBI, opcode 0x7F/0xFF: D - imm8 - borrow (R223). -/
  | smbi (imm : Byte)
  /-- GLO, opcode 0x80/0xF0: D <- low byte of R[N] (R172). -/
  | glo (n : Nibble)
  /-- GHI, opcode 0x90/0xF0: D <- high byte of R[N] (R173). -/
  | ghi (n : Nibble)
  /-- PLO, opcode 0xA0/0xF0: low byte of R[N] <- D (R174). -/
  | plo (n : Nibble)
  /-- PHI, opcode 0xB0/0xF0: high byte of R[N] <- D (R175). -/
  | phi (n : Nibble)
  /-- NOP, opcode 0xC4/0xFF: one extra tick, nothing else (R264). -/
  | nop
  /-- SEP, opcode 0xD0/0xF0: P <- N (R260). -/
  | sep (n : Nibble)
  /-- SEX, opcode 0xE0/0xF0: X <- N (R261). -/
  | sex (n : Nibble)
  /-- LDX, opcode 0xF0/0xFF: D <- M[R[X]] (R190). -/
  | ldx
  /-- OR, opcode 0xF1/0xFF: D or M[R[X]] (R240). -/
  | or
  /-- AND, opcode 0xF2/0xFF: D and M[R[X]] (R241). -/
  | and
  /-- XOR, opcode 0xF3/0xFF: D xor M[R[X]] (R242). -/
  | xor
  /-- ADD, opcode 0xF4/0xFF: D + M[R[X]] (R211). -/
  | add
  /-- SD, opcode 0xF5/0xFF: M[R[X]] - D (R216). -/
  | sd
  /-- SHR, opcode 0xF6/0xFF: shift right (R246). -/
  | shr
  /-- SM, opcode 0xF7/0xFF: D - M[R[X]] (R220). -/
  | sm
  /-- LDI, opcode 0xF8/0xFF: D <- imm8 (R194). -/
  | ldi (imm : Byte)
  /-- ORI, opcode 0xF9/0xFF: D or imm8 (R243). -/
  | ori (imm : Byte)
  /-- ANI, opcode 0xFA/0xFF: D and imm8 (R244). -/
  | ani (imm : Byte)
  /-- XRI, opcode 0xFB/0xFF: D xor imm8 (R245). -/
  | xri (imm : Byte)
  /-- ADI, opcode 0xFC/0xFF: D + imm8 (R212). -/
  | adi (imm : Byte)
  /-- SDI, opcode 0xFD/0xFF: imm8 - D (R217). -/
  | sdi (imm : Byte)
  /-- SHL, opcode 0xFE/0xFF: shift left (R248). -/
  | shl
  /-- SMI, opcode 0xFF/0xFF: D - imm8 (R221). -/
  | smi (imm : Byte)
  /-- BR, opcode 0x30/0xFF: short branch: always (R303). -/
  | br (aa : Byte)
  /-- BQ, opcode 0x31/0xFF: short branch: Q = 1 (R304). -/
  | bq (aa : Byte)
  /-- BZ, opcode 0x32/0xFF: short branch: D = 0x00 (R305). -/
  | bz (aa : Byte)
  /-- BDF, opcode 0x33/0xFF: short branch: DF = 1 (R306). -/
  | bdf (aa : Byte)
  /-- B1, opcode 0x34/0xFF: short branch: EF1 = 1 (R307). -/
  | b1 (aa : Byte)
  /-- B2, opcode 0x35/0xFF: short branch: EF2 = 1 (R308). -/
  | b2 (aa : Byte)
  /-- B3, opcode 0x36/0xFF: short branch: EF3 = 1 (R309). -/
  | b3 (aa : Byte)
  /-- B4, opcode 0x37/0xFF: short branch: EF4 = 1 (R310). -/
  | b4 (aa : Byte)
  /-- NBR, opcode 0x38/0xFF: short branch: never (R311). -/
  | nbr (aa : Byte)
  /-- BNQ, opcode 0x39/0xFF: short branch: Q = 0 (R312). -/
  | bnq (aa : Byte)
  /-- BNZ, opcode 0x3A/0xFF: short branch: D != 0x00 (R313). -/
  | bnz (aa : Byte)
  /-- BNF, opcode 0x3B/0xFF: short branch: DF = 0 (R314). -/
  | bnf (aa : Byte)
  /-- BN1, opcode 0x3C/0xFF: short branch: EF1 = 0 (R315). -/
  | bn1 (aa : Byte)
  /-- BN2, opcode 0x3D/0xFF: short branch: EF2 = 0 (R316). -/
  | bn2 (aa : Byte)
  /-- BN3, opcode 0x3E/0xFF: short branch: EF3 = 0 (R317). -/
  | bn3 (aa : Byte)
  /-- BN4, opcode 0x3F/0xFF: short branch: EF4 = 0 (R318). -/
  | bn4 (aa : Byte)
  /-- OUT, opcode 0x60/0xF8: BUS <- M[R[X]], R[X] + 1, device 1..7 on the lines (R319). -/
  | out (dev : BitVec 3)
  /-- INP, opcode 0x68/0xF8: M[R[X]], D <- BUS, device 1..7 on the lines (R320). -/
  | inp (dev : BitVec 3)
deriving DecidableEq, Repr

end Sys2Proof
end

