-- ==== Sys2Proof/WellFormed.lean ====
section
/-! DEFINITION. Which instructions have an encoding. Three rows exclude a value of their field: LDN has no N = 0 (that byte is
IDL: spec/30_encoding.md R98), OUT and INP have no device 0 (bytes 0x60 and 0x68: R99, R300). Every other operand takes every
value of its width (R23, R91). Which profile an instruction belongs to is the second predicate (R99). -/

namespace Sys2Proof

/-- The instruction's operand is one its row allows (R98, R99, R101). -/
def Instr.wellFormed : Instr → Bool
  | .idl => true
  | .ldn n => n != 0
  | .inc _ => true
  | .dec _ => true
  | .str _ => true
  | .ldxa => true
  | .stxd => true
  | .adc => true
  | .sdb => true
  | .shrc => true
  | .smb => true
  | .req => true
  | .seq => true
  | .adci _ => true
  | .sdbi _ => true
  | .shlc => true
  | .smbi _ => true
  | .glo _ => true
  | .ghi _ => true
  | .plo _ => true
  | .phi _ => true
  | .nop => true
  | .sep _ => true
  | .sex _ => true
  | .ldx => true
  | .or => true
  | .and => true
  | .xor => true
  | .add => true
  | .sd => true
  | .shr => true
  | .sm => true
  | .ldi _ => true
  | .ori _ => true
  | .ani _ => true
  | .xri _ => true
  | .adi _ => true
  | .sdi _ => true
  | .shl => true
  | .smi _ => true
  | .br _ => true
  | .bq _ => true
  | .bz _ => true
  | .bdf _ => true
  | .b1 _ => true
  | .b2 _ => true
  | .b3 _ => true
  | .b4 _ => true
  | .nbr _ => true
  | .bnq _ => true
  | .bnz _ => true
  | .bnf _ => true
  | .bn1 _ => true
  | .bn2 _ => true
  | .bn3 _ => true
  | .bn4 _ => true
  | .out dev => dev != 0
  | .inp dev => dev != 0

/-- The instruction is of the optional profile BRANCH_IO_EXT (R99, R301). -/
def Instr.isExt : Instr → Bool
  | .idl => false
  | .ldn _ => false
  | .inc _ => false
  | .dec _ => false
  | .str _ => false
  | .ldxa => false
  | .stxd => false
  | .adc => false
  | .sdb => false
  | .shrc => false
  | .smb => false
  | .req => false
  | .seq => false
  | .adci _ => false
  | .sdbi _ => false
  | .shlc => false
  | .smbi _ => false
  | .glo _ => false
  | .ghi _ => false
  | .plo _ => false
  | .phi _ => false
  | .nop => false
  | .sep _ => false
  | .sex _ => false
  | .ldx => false
  | .or => false
  | .and => false
  | .xor => false
  | .add => false
  | .sd => false
  | .shr => false
  | .sm => false
  | .ldi _ => false
  | .ori _ => false
  | .ani _ => false
  | .xri _ => false
  | .adi _ => false
  | .sdi _ => false
  | .shl => false
  | .smi _ => false
  | .br _ => true
  | .bq _ => true
  | .bz _ => true
  | .bdf _ => true
  | .b1 _ => true
  | .b2 _ => true
  | .b3 _ => true
  | .b4 _ => true
  | .nbr _ => true
  | .bnq _ => true
  | .bnz _ => true
  | .bnf _ => true
  | .bn1 _ => true
  | .bn2 _ => true
  | .bn3 _ => true
  | .bn4 _ => true
  | .out _ => true
  | .inp _ => true

/-- The instruction exists in the profile `ext` (R300). -/
def Instr.availableIn (ext : Bool) (ins : Instr) : Bool := ext || !ins.isExt

end Sys2Proof
end

