-- ==== Sys2Proof/Decode.lean ====
section
/-! DEFINITION. The decoder and, after it, the encoder, both from the opcode map of spec/30_encoding.md R94, R95 and
spec/48_ext_branch_io.md R301 (the numbers are the spec's decision D1, log 5). Decoding depends on the pair `(I, N)` and on the
profile alone (R93); the operand byte of format IMM is the byte after the opcode (R92). -/

namespace Sys2Proof

/-- `byte[7:4]`, the instruction class `I` (R14, R90). -/
def hiNibble (b : Byte) : Nibble := b.extractLsb' 4 4

/-- `byte[3:0]`, the register selector or sub-opcode `N` (R14, R90). -/
def loNibble (b : Byte) : Nibble := b.extractLsb' 0 4

/-- The opcode byte with the nibbles `I` and `N` (R90). -/
def opcodeByte (i n : Nibble) : Byte := (i ++ n : BitVec 8)

/-- Class 3, the sixteen short branches of the optional profile (R301). -/
def decodeBranch (n : Nibble) (aa : Byte) : Instr :=
  match n.toNat with
  | 0 => .br aa
  | 1 => .bq aa
  | 2 => .bz aa
  | 3 => .bdf aa
  | 4 => .b1 aa
  | 5 => .b2 aa
  | 6 => .b3 aa
  | 7 => .b4 aa
  | 8 => .nbr aa
  | 9 => .bnq aa
  | 10 => .bnz aa
  | 11 => .bnf aa
  | 12 => .bn1 aa
  | 13 => .bn2 aa
  | 14 => .bn3 aa
  | _ => .bn4 aa

/-- Class 6, OUT 1..7 and INP 1..7 of the optional profile; 0x60 and 0x68 have no entry (R99, R301). -/
def decodeInOut (n : Nibble) : Option Instr :=
  let dev : BitVec 3 := n.extractLsb' 0 3
  if dev = 0 then none else some (if n.getLsbD 3 then .inp dev else .out dev)

/-- Class 7: twelve of the sixteen sub-opcodes have an entry (R95). -/
def decodeClass7 (n : Nibble) (v : Byte) : Option Instr :=
  match n.toNat with
  | 2 => some .ldxa
  | 3 => some .stxd
  | 4 => some .adc
  | 5 => some .sdb
  | 6 => some .shrc
  | 7 => some .smb
  | 10 => some .req
  | 11 => some .seq
  | 12 => some (.adci v)
  | 13 => some (.sdbi v)
  | 14 => some .shlc
  | 15 => some (.smbi v)
  | _ => none

/-- Class F: every sub-opcode has an entry (R95). -/
def decodeClassF (n : Nibble) (v : Byte) : Instr :=
  match n.toNat with
  | 0 => .ldx
  | 1 => .or
  | 2 => .and
  | 3 => .xor
  | 4 => .add
  | 5 => .sd
  | 6 => .shr
  | 7 => .sm
  | 8 => .ldi v
  | 9 => .ori v
  | 10 => .ani v
  | 11 => .xri v
  | 12 => .adi v
  | 13 => .sdi v
  | 14 => .shl
  | _ => .smi v

/-- The decode table (R93, R95, and R99 when `ext`): the instruction of the latched pair `(i, n)`, with `v` the byte after the
opcode, taken up by format IMM only; none is the failing default arm (R96). -/
def decodePair (ext : Bool) (i n : Nibble) (v : Byte) : Option Instr :=
  match i.toNat with
  | 0x0 => some (if n = 0 then .idl else .ldn n)
  | 0x1 => some (.inc n)
  | 0x2 => some (.dec n)
  | 0x3 => if ext then some (decodeBranch n v) else none
  | 0x5 => some (.str n)
  | 0x6 => if ext then decodeInOut n else none
  | 0x7 => decodeClass7 n v
  | 0x8 => some (.glo n)
  | 0x9 => some (.ghi n)
  | 0xA => some (.plo n)
  | 0xB => some (.phi n)
  | 0xC => if n = 4 then some .nop else none
  | 0xD => some (.sep n)
  | 0xE => some (.sex n)
  | 0xF => some (decodeClassF n v)
  | _ => none

/-- Whether the opcode is followed by an operand byte (R91, R301): known from the opcode byte alone. -/
def needsOperand (i n : Nibble) : Bool :=
  match i.toNat with
  | 0x3 => true
  | 0x7 => n = 0xC || n = 0xD || n = 0xF
  | 0xF => n = 0x8 || n = 0x9 || n = 0xA || n = 0xB || n = 0xC || n = 0xD || n = 0xF
  | _ => false

/-- Why a byte string is no instruction. -/
inductive DecodeError where
  /-- There is no byte at all. -/
  | noBytes
  /-- The pair has no entry in the decode table of the profile (R96): on the machine, a DecodeFailure. -/
  | undefinedPair (i n : Nibble)
  /-- The byte string ends before the operand byte (R91). On the machine this cannot happen: addresses wrap (R62). -/
  | noOperand (i n : Nibble)
deriving DecidableEq, Repr

/-- Decode one instruction from a byte string, total, with the bytes that follow it (R91, R93). -/
def decode (ext : Bool) : List Byte → Except DecodeError (Instr × List Byte)
  | [] => .error .noBytes
  | b :: rest =>
    match decodePair ext (hiNibble b) (loNibble b) (rest.headD 0) with
    | none => .error (.undefinedPair (hiNibble b) (loNibble b))
    | some ins =>
      if needsOperand (hiNibble b) (loNibble b) then
        match rest with
        | [] => .error (.noOperand (hiNibble b) (loNibble b))
        | _ :: rest' => .ok (ins, rest')
      else .ok (ins, rest)

/-- The bytes of an instruction, opcode first (R90, R91, R94, R301). -/
def encode : Instr → List Byte
  | .idl => [0x00]
  | .ldn n => [opcodeByte 0x0 n]
  | .inc n => [opcodeByte 0x1 n]
  | .dec n => [opcodeByte 0x2 n]
  | .str n => [opcodeByte 0x5 n]
  | .ldxa => [0x72]
  | .stxd => [0x73]
  | .adc => [0x74]
  | .sdb => [0x75]
  | .shrc => [0x76]
  | .smb => [0x77]
  | .req => [0x7A]
  | .seq => [0x7B]
  | .adci imm => [0x7C, imm]
  | .sdbi imm => [0x7D, imm]
  | .shlc => [0x7E]
  | .smbi imm => [0x7F, imm]
  | .glo n => [opcodeByte 0x8 n]
  | .ghi n => [opcodeByte 0x9 n]
  | .plo n => [opcodeByte 0xA n]
  | .phi n => [opcodeByte 0xB n]
  | .nop => [0xC4]
  | .sep n => [opcodeByte 0xD n]
  | .sex n => [opcodeByte 0xE n]
  | .ldx => [0xF0]
  | .or => [0xF1]
  | .and => [0xF2]
  | .xor => [0xF3]
  | .add => [0xF4]
  | .sd => [0xF5]
  | .shr => [0xF6]
  | .sm => [0xF7]
  | .ldi imm => [0xF8, imm]
  | .ori imm => [0xF9, imm]
  | .ani imm => [0xFA, imm]
  | .xri imm => [0xFB, imm]
  | .adi imm => [0xFC, imm]
  | .sdi imm => [0xFD, imm]
  | .shl => [0xFE]
  | .smi imm => [0xFF, imm]
  | .br aa => [0x30, aa]
  | .bq aa => [0x31, aa]
  | .bz aa => [0x32, aa]
  | .bdf aa => [0x33, aa]
  | .b1 aa => [0x34, aa]
  | .b2 aa => [0x35, aa]
  | .b3 aa => [0x36, aa]
  | .b4 aa => [0x37, aa]
  | .nbr aa => [0x38, aa]
  | .bnq aa => [0x39, aa]
  | .bnz aa => [0x3A, aa]
  | .bnf aa => [0x3B, aa]
  | .bn1 aa => [0x3C, aa]
  | .bn2 aa => [0x3D, aa]
  | .bn3 aa => [0x3E, aa]
  | .bn4 aa => [0x3F, aa]
  | .out dev => [(0b01100#5 ++ dev : BitVec 8)]
  | .inp dev => [(0b01101#5 ++ dev : BitVec 8)]

/-- The first byte of an instruction word given in the table's numbering, bits above `nbits` zero (R101). -/
def tableOpcode (nbits w : Nat) : Byte := BitVec.ofNat 8 (w % 2 ^ nbits)

/-- The second byte of such a word: bits 15..8 (R91, R101). -/
def tableOperand (nbits w : Nat) : Byte := BitVec.ofNat 8 (w % 2 ^ nbits / 256)

/-- The instruction the decoder reads from a word numbered as spec/opcode_table.json numbers it; the whole table, so with the
optional profile's rows (R101). -/
def decodeTableWord (nbits w : Nat) : Option Instr :=
  match decode true [tableOpcode nbits w, tableOperand nbits w] with
  | .ok (ins, _) => some ins
  | .error _ => none

end Sys2Proof
end

