-- ==== Sys2Proof/Machine/State.lean ====
section
/-! DEFINITION. The machine's state (spec/10_state.md), plain data, and its value at power-on (R43, R450). -/

namespace Sys2Proof.Machine

/-- The five control states a pause can remember (R34, R120). -/
inductive Phase where
  /-- Held in reset: a tick re-applies the reset values (R123). -/
  | reset
  /-- The one-shot initialiser, entered and left inside one `run` (R124, R130). -/
  | init
  /-- The opcode is to be read (R125). -/
  | fetch
  /-- The latched opcode is to be performed (R126). -/
  | execute
  /-- The continuation phase of NOP (R127). -/
  | forceExecute
deriving DecidableEq, Repr

/-- The control state `CS`: one of six shapes, a pause never remembering a pause (R34). -/
inductive Control where
  /-- One of the five phases, due at the next tick. -/
  | phase (ph : Phase)
  /-- Frozen, with the phase to resume (R128, R131). -/
  | pause (prev : Phase)
deriving DecidableEq, Repr

/-- What a DecodeFailure reports: the pair and the address the opcode was fetched from (R401). -/
structure DecodeFailure where
  /-- The latched `I`. -/
  i : Nibble
  /-- The latched `N`. -/
  n : Nibble
  /-- `(R[P] - 1) mod 2^16`. -/
  addr : Word
deriving DecidableEq, Repr

/-- The failures a host call can return (R120, R400, R405). -/
inductive Failure where
  /-- The Execute tick found no entry for the latched pair (R400). -/
  | decodeFailure (f : DecodeFailure)
  /-- `setFlag` with an index outside 1..4 (R405: InvalidFlagId). -/
  | invalidFlagId
  /-- `setFlag` with a value above 1 or `setBus` with a value above 0xFF (R405: InvalidStimulusValue). -/
  | invalidStimulusValue
  /-- `load` at an address above 0xFFFF (R72, R405). -/
  | invalidLoadAddress
deriving DecidableEq, Repr

/-- One call of the host: the four events (R120) and what it may do between events (R10, R72). Indices and values are the raw
numbers of the call, checked by the interface (R39, R405). -/
inductive HostCall where
  /-- The event `tick` (R122). -/
  | tick
  /-- The event `reset` (R129). -/
  | reset
  /-- The event `run` (R130). -/
  | run
  /-- The event `pause` (R131). -/
  | pause
  /-- Set the external flag `EF<index>` (R10, R31). -/
  | setFlag (index value : Nat)
  /-- Write `BUS` (R10, R30). -/
  | setBus (value : Nat)
  /-- Write one byte of memory, before the first `run` (R72). -/
  | load (addr : Nat) (value : Byte)
deriving DecidableEq, Repr

/-- Memory: the cells that differ from the unlisted byte, addresses strictly rising (R33, R60). -/
abbrev Memory := List Host.Cell

/-- Every piece of state the spec gives the machine (R20 to R34), then the parameter, the outputs to the host and the model's
own fields. -/
structure State where
  /-- `D`, the accumulator (R20). -/
  d : Byte
  /-- `DF`, carry / no-borrow (R21). -/
  df : Bool
  /-- `B`, auxiliary, inert (R22; log 17). -/
  b : Byte
  /-- `R[0]` .. `R[15]` (R23). -/
  r : Vector Word 16
  /-- `P`, which register is the program counter (R24). -/
  p : Nibble
  /-- `X`, which register is the data pointer (R25). -/
  x : Nibble
  /-- `I`, the latched high nibble of the opcode (R26). -/
  i : Nibble
  /-- `N`, the latched low nibble of the opcode (R26). -/
  n : Nibble
  /-- `T`, inert (R27; log 17). -/
  t : Byte
  /-- `IE`, inert (R28; log 17). -/
  ie : Bool
  /-- `Q`, the output flip-flop (R29). -/
  q : Bool
  /-- `BUS`, the external data-bus latch (R30). -/
  bus : Byte
  /-- `EF1` (R31). -/
  ef1 : Bool
  /-- `EF2` (R31). -/
  ef2 : Bool
  /-- `EF3` (R31). -/
  ef3 : Bool
  /-- `EF4` (R31). -/
  ef4 : Bool
  /-- `N0`, a device select line (R32). -/
  n0 : Bool
  /-- `N1`, a device select line (R32). -/
  n1 : Bool
  /-- `N2`, a device select line (R32). -/
  n2 : Bool
  /-- `M`, the memory (R33). -/
  mem : Memory
  /-- `CS`, the control state (R34). -/
  cs : Control
  /-- BRANCH_IO_EXT, fixed for a machine: no step changes it (R2, R8, R300; log 12). -/
  branchIoExt : Bool
  /-- The failure the latest host call returned, if it failed (R45, R401; log 4). -/
  report : Option Failure
  /-- The first DecodeFailure, set once and cleared by nothing (R45). -/
  fault : Option DecodeFailure
  /-- The first `run` has been issued, so the load port is closed (R42, R72; log 8). -/
  started : Bool
  /-- THE MODEL'S OWN: the host calls still to come; when there is none the driver issues `tick` (R9, log 1). -/
  pending : List HostCall
deriving DecidableEq, Repr

/-- The machine stops with a fault: never. No access, arithmetic or instruction faults (R406), and a DecodeFailure does not stop
the machine: it is reported and the core stays in Execute, from which `reset` leaves (R135, R403, R404, 90_conflicts.md C11). So
there is no constructor; were one needed it would be safe. -/
inductive Fault where
deriving DecidableEq, Repr

/-- Why the model gives no next state. -/
inductive Refusal where
  /-- Raised by an arm of `exec` whose instruction has no meaning yet; no arm of this model does. Safe: nothing can be proved of it. -/
  | notModelled (mnemonic : String)
  /-- Raised by the host call `load` after the first `run`: the host has no such right and the spec gives it no effect (R72,
  93_implementation_defined.md U8; log 8). Safe: the model goes no further. -/
  | loadAfterFirstRun
deriving DecidableEq, Repr

/-- What an instruction, a tick or a host call answers. -/
abbrev Result := Host.Outcome State Fault Refusal

/-- The power-on state: "all fields zeroed except `IE=1`", control state Reset (R43, R450, R452); no host call is pending (log 1);
no program is loaded (log 2). -/
def State.reset : State where
  d := 0
  df := false
  b := 0
  r := Vector.replicate 16 0
  p := 0
  x := 0
  i := 0
  n := 0
  t := 0
  ie := true
  q := false
  bus := 0
  ef1 := false
  ef2 := false
  ef3 := false
  ef4 := false
  n0 := false
  n1 := false
  n2 := false
  mem := []
  cs := .phase .reset
  branchIoExt := false
  report := none
  fault := none
  started := false
  pending := []

end Sys2Proof.Machine
end

