-- ==== Sys2Proof/Machine/Ops.lean ====
section
/-! DEFINITION. The named operations over memory, registers, selectors and control state; the taking of a DecodeFailure and the
way out of it. -/

namespace Sys2Proof.Machine

/-! ## Memory (spec/20_memory.md) -/

/-- `M[a]`: the listed byte, or the unlisted one (R61). -/
def Memory.read : Memory → Nat → Byte
  | [], _ => Config.unlistedByte
  | (b, w) :: rest, a => if a = b then w else Memory.read rest a

/-- A cell put before `rest`, unless it holds the unlisted byte. -/
def Memory.cons (a : Nat) (v : Byte) (rest : Memory) : Memory :=
  if v = Config.unlistedByte then rest else (a, v) :: rest

/-- `M[a] <- v`, keeping the canonical form (R61). -/
def Memory.write : Memory → Nat → Byte → Memory
  | [], a, v => Memory.cons a v []
  | (b, w) :: rest, a, v =>
    if a < b then Memory.cons a v ((b, w) :: rest)
    else if a = b then Memory.cons a v rest
    else (b, w) :: Memory.write rest a v

/-- The cells' addresses are at least `lo`, strictly rising and inside the space, and no cell holds the unlisted byte. -/
def Memory.wfFrom : Nat → Memory → Bool
  | _, [] => true
  | lo, (a, v) :: rest =>
    decide (lo ≤ a) && decide (a < Config.memBytes) && decide (v ≠ Config.unlistedByte) && Memory.wfFrom (a + 1) rest

/-- The canonical form of memory (R60). -/
def Memory.wf (m : Memory) : Bool := Memory.wfFrom 0 m

/-- `MemRead(addr, 1)` (R61). -/
def State.memRead (s : State) (a : Word) : Byte := Memory.read s.mem a.toNat

/-- `MemWrite(addr, 1, v)` (R61). -/
def State.memWrite (s : State) (a : Word) (v : Byte) : State := { s with mem := Memory.write s.mem a.toNat v }

/-! ## Registers and selectors (spec/10_state.md) -/

/-- `R[k]` (R23). -/
def State.reg (s : State) (k : Nibble) : Word := s.r[k.toNat]'k.isLt

/-- `R[k] <- v` (R23, R37). -/
def State.setReg (s : State) (k : Nibble) (v : Word) : State := { s with r := s.r.set k.toNat v k.isLt }

/-- The program counter, `R[P]` (R35). -/
def State.pc (s : State) : Word := s.reg s.p

/-- `R[P] <- v` (R35). -/
def State.setPc (s : State) (v : Word) : State := s.setReg s.p v

/-- The data pointer, `R[X]` (R36). -/
def State.dp (s : State) : Word := s.reg s.x

/-- `R[X] <- v` (R36). -/
def State.setDp (s : State) (v : Word) : State := s.setReg s.x v

/-- `D <- v` (R20). -/
def State.setD (s : State) (v : Byte) : State := { s with d := v }

/-- `DF <- c` (R21). -/
def State.setDf (s : State) (c : Bool) : State := { s with df := c }

/-- `P <- k` (R24). -/
def State.setP (s : State) (k : Nibble) : State := { s with p := k }

/-- `X <- k` (R25). -/
def State.setX (s : State) (k : Nibble) : State := { s with x := k }

/-- `I <- i; N <- n` (R26). -/
def State.latch (s : State) (i n : Nibble) : State := { s with i := i, n := n }

/-- `IE <- c` (R28). -/
def State.setIe (s : State) (c : Bool) : State := { s with ie := c }

/-- `Q <- c` (R29). -/
def State.setQ (s : State) (c : Bool) : State := { s with q := c }

/-- `BUS <- v` (R30). -/
def State.setBus (s : State) (v : Byte) : State := { s with bus := v }

/-- `N0 <- dev[0]; N1 <- dev[1]; N2 <- dev[2]` (R32, R319, R320). -/
def State.selectDevice (s : State) (dev : BitVec 3) : State :=
  { s with n0 := dev.getLsbD 0, n1 := dev.getLsbD 1, n2 := dev.getLsbD 2 }

/-- The tick preamble: `N0 <- 0; N1 <- 0; N2 <- 0` (R32, R122). -/
def State.clearLines (s : State) : State := { s with n0 := false, n1 := false, n2 := false }

/-- `CS <- Fetch`, and so on for the other phases; also the `next <- S` that ends an instruction (R134). -/
def State.goto (s : State) (ph : Phase) : State := { s with cs := .phase ph }

/-- `CS <- Pause(prev)` (R131). -/
def State.freeze (s : State) (prev : Phase) : State := { s with cs := .pause prev }

/-- A host call begins: no failure has been returned yet (R45, log 4). -/
def State.clearReport (s : State) : State := { s with report := none }

/-- The first `run` has been issued (R42, R72; log 8). -/
def State.markStarted (s : State) : State := { s with started := true }

/-- The external flag of index 1..4 set, any other index refused with InvalidFlagId, a value above 1 with InvalidStimulusValue,
changing no other state (R31, R405; log 9). -/
def State.hostSetFlag (s : State) (index value : Nat) : State :=
  if index = 0 ∨ Config.flagCount < index then { s with report := some .invalidFlagId }
  else if 1 < value then { s with report := some .invalidStimulusValue }
  else
    match index with
    | 1 => { s with ef1 := value = 1 }
    | 2 => { s with ef2 := value = 1 }
    | 3 => { s with ef3 := value = 1 }
    | _ => { s with ef4 := value = 1 }

/-- `BUS` written by the environment, a value above 0xFF refused with InvalidStimulusValue (R30, R405; log 13). -/
def State.hostSetBus (s : State) (value : Nat) : State :=
  if 0xFF < value then { s with report := some .invalidStimulusValue }
  else { s with bus := BitVec.ofNat 8 value }

/-- A byte loaded before the first `run`, an address outside memory refused (R72, R405). -/
def State.hostLoad (s : State) (addr : Nat) (value : Byte) : State :=
  if addr < Config.memBytes then { s with mem := Memory.write s.mem addr value }
  else { s with report := some .invalidLoadAddress }

/-! ## Taking a DecodeFailure, and the way out of it (spec/60_exceptions.md) -/

/-- What the failure reports: the latched pair and the address the opcode was fetched from (R401; log 18). -/
def State.decodeFailure (s : State) : DecodeFailure := { i := s.i, n := s.n, addr := s.pc - 1 }

/-- Raise DecodeFailure: it is reported to the caller and recorded if it is the first; no register, flag, latch, memory cell or
control state changes (R45, R135, R402, R413; log 4). -/
def State.raiseDecodeFailure (s : State) : State :=
  { s with report := some (.decodeFailure s.decodeFailure), fault := s.fault <|> some s.decodeFailure }

/-- The tick in Reset: `I <- 0; N <- 0; Q <- 0; IE <- 1; BUS <- 0x00` (R123). Entered by the event `reset`, the only way out of a
decode failure (R129, R404). -/
def State.resetTick (s : State) : State :=
  { s with i := 0, n := 0, q := false, ie := true, bus := 0, cs := .phase .reset }

/-- The tick in Init: `X <- 0; P <- 0; R[0] <- 0x0000; CS <- Fetch` (R124). -/
def State.initTick (s : State) : State := (((s.setX 0).setP 0).setReg 0 0).goto .fetch

/-- The tick in Fetch: latch the byte at `R[P]`, step `R[P]` past it, `CS <- Execute` (R125). -/
def State.fetchTick (s : State) : State :=
  ((s.latch (hiNibble (s.memRead s.pc)) (loNibble (s.memRead s.pc))).setPc (s.pc + 1)).goto .execute

end Sys2Proof.Machine
end

