-- ==== Sys2Proof/Machine/Operands.lean ====
section
/-! DEFINITION. The operand forms: bytes of a register, the four addressing modes of spec/43_load_store.md (via `R[N]`, via
`R[X]`, via `R[X]` with post-increment or post-decrement, via `R[P]` with post-increment), `R[0]` for IDL, and the branch target. -/

namespace Sys2Proof.Machine

/-- `w[7:0]` (R14). -/
def lowByte (w : Word) : Byte := w.extractLsb' 0 8

/-- `w[15:8]` (R14). -/
def highByte (w : Word) : Byte := w.extractLsb' 8 8

/-- `{hi, lo}` (R14). -/
def joinBytes (hi lo : Byte) : Word := (hi ++ lo : BitVec 16)

/-- The byte at `R[k]`: via N, or `R[0]` for IDL (R160, R161). -/
def State.byteVia (s : State) (k : Nibble) : Byte := s.memRead (s.reg k)

/-- The memory operand, the byte at `R[X]` (R36, R190). -/
def State.byteViaX (s : State) : Byte := s.memRead s.dp

/-- The byte at `R[P]`: the operand byte during an Execute tick (R92, R195). -/
def State.operandByte (s : State) : Byte := s.memRead s.pc

/-- `R[X] <- (R[X] + 1) mod 2^16` (R191). -/
def State.advanceX (s : State) : State := s.setDp (s.dp + 1)

/-- `R[X] <- (R[X] - 1) mod 2^16` (R193). -/
def State.retreatX (s : State) : State := s.setDp (s.dp - 1)

/-- The second half of `ImmFetch()`: `R[P] <- (R[P] + 1) mod 2^16` (R195). Its first half, the read, is `operandByte`, done by the
Execute tick that builds the instruction (log 6). -/
def State.stepOverOperand (s : State) : State := s.setPc (s.pc + 1)

/-- `R[P] <- {R[P][15:8], aa}`: a taken short branch (R302). -/
def State.branchTo (s : State) (aa : Byte) : State := s.setPc (joinBytes (highByte s.pc) aa)

end Sys2Proof.Machine
end

