-- ==== Sys2Proof/Machine/Flags.lean ====
section
/-! DEFINITION. Every computation that gives `DF`: the adder (spec/44_arithmetic.md R210, R215) and the shifts
(spec/45_logic_shift.md R246 to R249). Logic, loads and the rest leave `DF` alone (R21, R250). -/

namespace Sys2Proof.Machine

/-- `a + b + c` "as an unbounded integer" (R210). -/
def addSum (a b : Byte) (c : Bool) : Nat := a.toNat + b.toNat + c.toNat

/-- `AddCore(a, b, c)`: `s <- a + b + c; DF <- s[8]; D <- s[7:0]` (R210). -/
def State.addCore (s : State) (a b : Byte) (c : Bool) : State :=
  (s.setD (BitVec.ofNat 8 (addSum a b c))).setDf (decide (0xFF < addSum a b c))

/-- `minuend + (~subtrahend & 0xFF) + c` through the same adder; `DF` = 1 means no borrow (R215, R224). -/
def State.subCore (s : State) (minuend subtrahend : Byte) (c : Bool) : State := s.addCore minuend (~~~subtrahend) c

/-- `D <- {c, d[7:1]}; DF <- d[0]` (R246, R247). -/
def State.shiftRight (s : State) (c : Bool) : State :=
  (s.setD (BitVec.cons c (s.d.extractLsb' 1 7))).setDf (s.d.getLsbD 0)

/-- `D <- {d[6:0], c}; DF <- d[7]` (R248, R249). -/
def State.shiftLeft (s : State) (c : Bool) : State :=
  (s.setD (BitVec.concat (s.d.extractLsb' 0 7) c)).setDf (s.d.getLsbD 7)

end Sys2Proof.Machine
end

