-- ==== Sys2Proof/Machine/Arithmetic.lean ====
section
/-! DEFINITION. The add and subtract families (spec/44_arithmetic.md): m is the byte at `R[X]`, v the operand byte. -/

namespace Sys2Proof.Machine

/-- ADD: `AddCore(D, m, 0)` (R211). -/
def execAdd (s : State) : Result :=
  .next ((s.addCore s.d s.byteViaX false).goto .fetch)

/-- ADI: `AddCore(D, v, 0)` (R212). -/
def execAdi (imm : Byte) (s : State) : Result :=
  .next ((s.stepOverOperand.addCore s.d imm false).goto .fetch)

/-- ADC: `AddCore(D, m, DF)` (R213). -/
def execAdc (s : State) : Result :=
  .next ((s.addCore s.d s.byteViaX s.df).goto .fetch)

/-- ADCI: `AddCore(D, v, DF)` (R214). -/
def execAdci (imm : Byte) (s : State) : Result :=
  .next ((s.stepOverOperand.addCore s.d imm s.df).goto .fetch)

/-- SD: m - D, `AddCore(m, ~D & 0xFF, 1)` (R216). -/
def execSd (s : State) : Result :=
  .next ((s.subCore s.byteViaX s.d true).goto .fetch)

/-- SDI: v - D, `AddCore(v, ~D & 0xFF, 1)` (R217). -/
def execSdi (imm : Byte) (s : State) : Result :=
  .next ((s.stepOverOperand.subCore imm s.d true).goto .fetch)

/-- SDB: m - D with borrow, `AddCore(m, ~D & 0xFF, DF)` (R218). -/
def execSdb (s : State) : Result :=
  .next ((s.subCore s.byteViaX s.d s.df).goto .fetch)

/-- SDBI: v - D with borrow, `AddCore(v, ~D & 0xFF, DF)` (R219). -/
def execSdbi (imm : Byte) (s : State) : Result :=
  .next ((s.stepOverOperand.subCore imm s.d s.df).goto .fetch)

/-- SM: D - m, `AddCore(D, ~m & 0xFF, 1)` (R220). -/
def execSm (s : State) : Result :=
  .next ((s.subCore s.d s.byteViaX true).goto .fetch)

/-- SMI: D - v, `AddCore(D, ~v & 0xFF, 1)` (R221). -/
def execSmi (imm : Byte) (s : State) : Result :=
  .next ((s.stepOverOperand.subCore s.d imm true).goto .fetch)

/-- SMB: D - m with borrow, `AddCore(D, ~m & 0xFF, DF)` (R222). -/
def execSmb (s : State) : Result :=
  .next ((s.subCore s.d s.byteViaX s.df).goto .fetch)

/-- SMBI: D - v with borrow, `AddCore(D, ~v & 0xFF, DF)` (R223). -/
def execSmbi (imm : Byte) (s : State) : Result :=
  .next ((s.stepOverOperand.subCore s.d imm s.df).goto .fetch)

end Sys2Proof.Machine
end

