-- ==== Sys2Proof/Machine/BranchInOut.lean ====
section
/-! DEFINITION. The optional profile BRANCH_IO_EXT (spec/48_ext_branch_io.md): short branches, OUT, INP. The spec supplies
all of it from general knowledge (log 7); a flag is the source's boolean, not a pin level (log 16). Whether the profile is on is asked
by the decoder (R300), not here. -/

namespace Sys2Proof.Machine

/-- The short branches' common rule: taken, the low byte of `R[P]` becomes `aa`; not taken, `R[P]` steps over the operand byte
(R302). -/
def State.shortBranch (s : State) (cond : Bool) (aa : Byte) : State :=
  (if cond then s.branchTo aa else s.stepOverOperand).goto .fetch

/-- BR: `cond` = always (R303). -/
def execBr (aa : Byte) (s : State) : Result :=
  .next (s.shortBranch true aa)

/-- BQ: `cond` = Q = 1 (R304). -/
def execBq (aa : Byte) (s : State) : Result :=
  .next (s.shortBranch s.q aa)

/-- BZ: `cond` = D = 0x00 (R305). -/
def execBz (aa : Byte) (s : State) : Result :=
  .next (s.shortBranch (s.d == 0) aa)

/-- BDF: `cond` = DF = 1 (R306). -/
def execBdf (aa : Byte) (s : State) : Result :=
  .next (s.shortBranch s.df aa)

/-- B1: `cond` = EF1 = 1 (R307). -/
def execB1 (aa : Byte) (s : State) : Result :=
  .next (s.shortBranch s.ef1 aa)

/-- B2: `cond` = EF2 = 1 (R308). -/
def execB2 (aa : Byte) (s : State) : Result :=
  .next (s.shortBranch s.ef2 aa)

/-- B3: `cond` = EF3 = 1 (R309). -/
def execB3 (aa : Byte) (s : State) : Result :=
  .next (s.shortBranch s.ef3 aa)

/-- B4: `cond` = EF4 = 1 (R310). -/
def execB4 (aa : Byte) (s : State) : Result :=
  .next (s.shortBranch s.ef4 aa)

/-- NBR: `cond` = never (R311). -/
def execNbr (aa : Byte) (s : State) : Result :=
  .next (s.shortBranch false aa)

/-- BNQ: `cond` = Q = 0 (R312). -/
def execBnq (aa : Byte) (s : State) : Result :=
  .next (s.shortBranch (!s.q) aa)

/-- BNZ: `cond` = D ≠ 0x00 (R313). -/
def execBnz (aa : Byte) (s : State) : Result :=
  .next (s.shortBranch (s.d != 0) aa)

/-- BNF: `cond` = DF = 0 (R314). -/
def execBnf (aa : Byte) (s : State) : Result :=
  .next (s.shortBranch (!s.df) aa)

/-- BN1: `cond` = EF1 = 0 (R315). -/
def execBn1 (aa : Byte) (s : State) : Result :=
  .next (s.shortBranch (!s.ef1) aa)

/-- BN2: `cond` = EF2 = 0 (R316). -/
def execBn2 (aa : Byte) (s : State) : Result :=
  .next (s.shortBranch (!s.ef2) aa)

/-- BN3: `cond` = EF3 = 0 (R317). -/
def execBn3 (aa : Byte) (s : State) : Result :=
  .next (s.shortBranch (!s.ef3) aa)

/-- BN4: `cond` = EF4 = 0 (R318). -/
def execBn4 (aa : Byte) (s : State) : Result :=
  .next (s.shortBranch (!s.ef4) aa)

/-- OUT: the device number on the lines, `BUS <- M[R[X]]`, then `R[X] + 1` (R319). -/
def execOut (dev : BitVec 3) (s : State) : Result :=
  .next ((((s.selectDevice dev).setBus s.byteViaX).advanceX).goto .fetch)

/-- INP: the device number on the lines, `M[R[X]] <- BUS; D <- BUS` (R320). -/
def execInp (dev : BitVec 3) (s : State) : Result :=
  .next ((((s.selectDevice dev).memWrite s.dp s.bus).setD s.bus).goto .fetch)

end Sys2Proof.Machine
end

