-- ==== Sys2Proof/Machine/Control.lean ====
section
/-! DEFINITION. Register selection, Q output and no-operation (spec/46_control.md). -/

namespace Sys2Proof.Machine

/-- SEP: `P <- N`, no register content touched (R260). -/
def execSep (n : Nibble) (s : State) : Result :=
  .next ((s.setP n).goto .fetch)

/-- SEX: `X <- N`, no register content touched (R261). -/
def execSex (n : Nibble) (s : State) : Result :=
  .next ((s.setX n).goto .fetch)

/-- SEQ: `Q <- 1` (R262). -/
def execSeq (s : State) : Result :=
  .next ((s.setQ true).goto .fetch)

/-- REQ: `Q <- 0` (R263). -/
def execReq (s : State) : Result :=
  .next ((s.setQ false).goto .fetch)

/-- NOP: `next <- ForceExecute`, nothing else (R264). -/
def execNop (s : State) : Result :=
  .next (s.goto .forceExecute)

end Sys2Proof.Machine
end

