-- ==== Sys2Proof/Machine/IdleLoad.lean ====
section
/-! DEFINITION. IDL and LDN (spec/41_idle_ldn.md). -/

namespace Sys2Proof.Machine

/-- IDL: `BUS <- M[R[0]]`, the register always `R[0]`; the core stays in Execute and repeats this at every tick (R160; log 15). -/
def execIdl (s : State) : Result :=
  .next ((s.setBus (s.byteVia 0)).goto .execute)

/-- LDN: `D <- M[R[N]]`, the memory-addressed form (R161). -/
def execLdn (n : Nibble) (s : State) : Result :=
  .next ((s.setD (s.byteVia n)).goto .fetch)

end Sys2Proof.Machine
end

