-- ==== Sys2Proof/Machine/LoadStore.lean ====
section
/-! DEFINITION. Loads and stores through X, N and the program counter (spec/43_load_store.md). -/

namespace Sys2Proof.Machine

/-- LDX: `D <- M[R[X]]` (R190). -/
def execLdx (s : State) : Result :=
  .next ((s.setD s.byteViaX).goto .fetch)

/-- LDXA: `D <- M[R[X]]`, then `R[X] + 1` (R191). -/
def execLdxa (s : State) : Result :=
  .next (((s.setD s.byteViaX).advanceX).goto .fetch)

/-- STR: `M[R[N]] <- D` (R192). -/
def execStr (n : Nibble) (s : State) : Result :=
  .next ((s.memWrite (s.reg n) s.d).goto .fetch)

/-- STXD: `M[R[X]] <- D`, then `R[X] - 1` (R193). -/
def execStxd (s : State) : Result :=
  .next (((s.memWrite s.dp s.d).retreatX).goto .fetch)

/-- LDI: `D <- ImmFetch()` (R194). -/
def execLdi (imm : Byte) (s : State) : Result :=
  .next ((s.stepOverOperand.setD imm).goto .fetch)

end Sys2Proof.Machine
end

