-- ==== Sys2Proof/Machine/LogicShift.lean ====
section
/-! DEFINITION. Logic and shifts (spec/45_logic_shift.md). -/

namespace Sys2Proof.Machine

/-- OR: `D <- D or M[R[X]]`, `DF` untouched (R240). -/
def execOr (s : State) : Result :=
  .next ((s.setD (s.d ||| s.byteViaX)).goto .fetch)

/-- AND: `D <- D and M[R[X]]`, `DF` untouched (R241). -/
def execAnd (s : State) : Result :=
  .next ((s.setD (s.d &&& s.byteViaX)).goto .fetch)

/-- XOR: `D <- D xor M[R[X]]`, `DF` untouched (R242). -/
def execXor (s : State) : Result :=
  .next ((s.setD (s.d ^^^ s.byteViaX)).goto .fetch)

/-- ORI: `v <- ImmFetch(); D <- D or v`, `DF` untouched (R243). -/
def execOri (imm : Byte) (s : State) : Result :=
  .next ((s.stepOverOperand.setD (s.d ||| imm)).goto .fetch)

/-- ANI: `v <- ImmFetch(); D <- D and v`, `DF` untouched (R244). -/
def execAni (imm : Byte) (s : State) : Result :=
  .next ((s.stepOverOperand.setD (s.d &&& imm)).goto .fetch)

/-- XRI: `v <- ImmFetch(); D <- D xor v`, `DF` untouched (R245). -/
def execXri (imm : Byte) (s : State) : Result :=
  .next ((s.stepOverOperand.setD (s.d ^^^ imm)).goto .fetch)

/-- SHR: a 0 shifted in at bit 7, bit 0 to `DF` (R246). -/
def execShr (s : State) : Result :=
  .next ((s.shiftRight false).goto .fetch)

/-- SHRC: the old `DF` shifted in at bit 7, bit 0 to `DF` (R247). -/
def execShrc (s : State) : Result :=
  .next ((s.shiftRight s.df).goto .fetch)

/-- SHL: a 0 shifted in at bit 0, bit 7 to `DF` (R248). -/
def execShl (s : State) : Result :=
  .next ((s.shiftLeft false).goto .fetch)

/-- SHLC: the old `DF` shifted in at bit 0, bit 7 to `DF` (R249). -/
def execShlc (s : State) : Result :=
  .next ((s.shiftLeft s.df).goto .fetch)

end Sys2Proof.Machine
end

