-- ==== Sys2Proof/Machine/Register.lean ====
section
/-! DEFINITION. The register instructions (spec/42_register_ops.md); `R[N]` may be the program counter or the data pointer. -/

namespace Sys2Proof.Machine

/-- INC: `R[N] <- (R[N] + 1) mod 2^16` (R170). -/
def execInc (n : Nibble) (s : State) : Result :=
  .next ((s.setReg n (s.reg n + 1)).goto .fetch)

/-- DEC: `R[N] <- (R[N] - 1) mod 2^16` (R171). -/
def execDec (n : Nibble) (s : State) : Result :=
  .next ((s.setReg n (s.reg n - 1)).goto .fetch)

/-- GLO: `D <- R[N][7:0]` (R172). -/
def execGlo (n : Nibble) (s : State) : Result :=
  .next ((s.setD (lowByte (s.reg n))).goto .fetch)

/-- GHI: `D <- R[N][15:8]` (R173). -/
def execGhi (n : Nibble) (s : State) : Result :=
  .next ((s.setD (highByte (s.reg n))).goto .fetch)

/-- PLO: `R[N] <- {R[N][15:8], D}` (R174). -/
def execPlo (n : Nibble) (s : State) : Result :=
  .next ((s.setReg n (joinBytes (highByte (s.reg n)) s.d)).goto .fetch)

/-- PHI: `R[N] <- {D, R[N][7:0]}` (R175). -/
def execPhi (n : Nibble) (s : State) : Result :=
  .next ((s.setReg n (joinBytes s.d (lowByte (s.reg n)))).goto .fetch)

end Sys2Proof.Machine
end

