-- ==== Sys2Proof/Machine/Dispatch.lean ====
section
/-! DEFINITION. The Execute tick's dispatch: one arm per instruction, each one direct call of its meaning (spec/40_cycle_fsm.md
R126). The state given is that of the Execute tick after its preamble. -/

namespace Sys2Proof.Machine

-- The instruction's own rule, with the control state it selects (R134).
def exec (i : Instr) (s : State) : Host.Outcome State Fault Refusal :=
  match i with
  | .idl => Sys2Proof.Machine.execIdl s
  | .ldn n => Sys2Proof.Machine.execLdn n s
  | .inc n => Sys2Proof.Machine.execInc n s
  | .dec n => Sys2Proof.Machine.execDec n s
  | .str n => Sys2Proof.Machine.execStr n s
  | .ldxa => Sys2Proof.Machine.execLdxa s
  | .stxd => Sys2Proof.Machine.execStxd s
  | .adc => Sys2Proof.Machine.execAdc s
  | .sdb => Sys2Proof.Machine.execSdb s
  | .shrc => Sys2Proof.Machine.execShrc s
  | .smb => Sys2Proof.Machine.execSmb s
  | .req => Sys2Proof.Machine.execReq s
  | .seq => Sys2Proof.Machine.execSeq s
  | .adci imm => Sys2Proof.Machine.execAdci imm s
  | .sdbi imm => Sys2Proof.Machine.execSdbi imm s
  | .shlc => Sys2Proof.Machine.execShlc s
  | .smbi imm => Sys2Proof.Machine.execSmbi imm s
  | .glo n => Sys2Proof.Machine.execGlo n s
  | .ghi n => Sys2Proof.Machine.execGhi n s
  | .plo n => Sys2Proof.Machine.execPlo n s
  | .phi n => Sys2Proof.Machine.execPhi n s
  | .nop => Sys2Proof.Machine.execNop s
  | .sep n => Sys2Proof.Machine.execSep n s
  | .sex n => Sys2Proof.Machine.execSex n s
  | .ldx => Sys2Proof.Machine.execLdx s
  | .or => Sys2Proof.Machine.execOr s
  | .and => Sys2Proof.Machine.execAnd s
  | .xor => Sys2Proof.Machine.execXor s
  | .add => Sys2Proof.Machine.execAdd s
  | .sd => Sys2Proof.Machine.execSd s
  | .shr => Sys2Proof.Machine.execShr s
  | .sm => Sys2Proof.Machine.execSm s
  | .ldi imm => Sys2Proof.Machine.execLdi imm s
  | .ori imm => Sys2Proof.Machine.execOri imm s
  | .ani imm => Sys2Proof.Machine.execAni imm s
  | .xri imm => Sys2Proof.Machine.execXri imm s
  | .adi imm => Sys2Proof.Machine.execAdi imm s
  | .sdi imm => Sys2Proof.Machine.execSdi imm s
  | .shl => Sys2Proof.Machine.execShl s
  | .smi imm => Sys2Proof.Machine.execSmi imm s
  | .br aa => Sys2Proof.Machine.execBr aa s
  | .bq aa => Sys2Proof.Machine.execBq aa s
  | .bz aa => Sys2Proof.Machine.execBz aa s
  | .bdf aa => Sys2Proof.Machine.execBdf aa s
  | .b1 aa => Sys2Proof.Machine.execB1 aa s
  | .b2 aa => Sys2Proof.Machine.execB2 aa s
  | .b3 aa => Sys2Proof.Machine.execB3 aa s
  | .b4 aa => Sys2Proof.Machine.execB4 aa s
  | .nbr aa => Sys2Proof.Machine.execNbr aa s
  | .bnq aa => Sys2Proof.Machine.execBnq aa s
  | .bnz aa => Sys2Proof.Machine.execBnz aa s
  | .bnf aa => Sys2Proof.Machine.execBnf aa s
  | .bn1 aa => Sys2Proof.Machine.execBn1 aa s
  | .bn2 aa => Sys2Proof.Machine.execBn2 aa s
  | .bn3 aa => Sys2Proof.Machine.execBn3 aa s
  | .bn4 aa => Sys2Proof.Machine.execBn4 aa s
  | .out dev => Sys2Proof.Machine.execOut dev s
  | .inp dev => Sys2Proof.Machine.execInp dev s

end Sys2Proof.Machine
end

