-- ==== Sys2Proof/Machine/Cycle.lean ====
section
/-! DEFINITION. The cycle state machine (spec/40_cycle_fsm.md): what a tick does in each control state, the four events, and the
host's calls between events. -/

namespace Sys2Proof.Machine

/-- The instruction the Execute tick works on: the latched pair looked up in the table of the machine's profile, with the byte at
`R[P]` as its operand byte (R92, R93, R126, R300). -/
def State.latchedInstr (s : State) : Option Instr := decodePair s.branchIoExt s.i s.n s.operandByte

/-- The tick in Execute, after the preamble: the instruction, or a DecodeFailure (R126, R135). -/
def executeTick (s : State) : Result :=
  match s.latchedInstr with
  | some ins => exec ins s
  | none => .next s.raiseDecodeFailure

/-- What a tick does in each phase, after the preamble (R123 to R127). -/
def phaseTick (ph : Phase) (s : State) : Result :=
  match ph with
  | .reset => .next s.resetTick
  | .init => .next s.initTick
  | .fetch => .next s.fetchTick
  | .execute => executeTick s
  | .forceExecute => .next (s.goto .fetch)

/-- One tick: the preamble, then the phase; in Pause nothing more (R122, R128). -/
def tick (s : State) : Result :=
  match s.cs with
  | .phase ph => phaseTick ph s.clearLines
  | .pause _ => .next s.clearLines

/-- The event `reset`, from every control state (R129). -/
def resetEvent (s : State) : Result := tick (s.goto .reset)

/-- The event `run` (R130; log 10 for Init, log 14 for a running core). -/
def runEvent (s : State) : Result :=
  match s.cs with
  | .phase .reset => tick (s.markStarted.goto .init)
  | .phase .init => .next s.markStarted
  | .phase .fetch => tick s.markStarted
  | .phase .execute => tick s.markStarted
  | .phase .forceExecute => tick s.markStarted
  | .pause prev => tick (s.markStarted.goto prev)

/-- The event `pause` (R131). -/
def pauseEvent (s : State) : Result :=
  match s.cs with
  | .phase ph => tick (s.freeze ph)
  | .pause _ => tick s

/-- The host call `load`: open until the first `run`, refused by name after it (R72; log 8). -/
def loadCall (s : State) (addr : Nat) (value : Byte) : Result :=
  if s.started then .refused .loadAfterFirstRun else .next (s.hostLoad addr value)

/-- One host call, its failure indication none until it fails (R9, R120, R405). -/
def perform (c : HostCall) (s : State) : Result :=
  match c with
  | .tick => tick s.clearReport
  | .reset => resetEvent s.clearReport
  | .run => runEvent s.clearReport
  | .pause => pauseEvent s.clearReport
  | .setFlag index value => .next (s.clearReport.hostSetFlag index value)
  | .setBus value => .next (s.clearReport.hostSetBus value)
  | .load addr value => loadCall s.clearReport addr value

/-- The host call that comes next: the oldest pending one, or `tick` when none is pending (log 1). -/
def State.nextCall (s : State) : HostCall := s.pending.headD .tick

/-- The state with that call taken off the list. -/
def State.takeCall (s : State) : State := { s with pending := s.pending.tail }

/-- The next host call performs an Idle Execute tick: the Execute phase is due, now or by a `run` after a pause, with the pair (0, 0)
of IDL latched (R130, R160; log 19). -/
def State.idlesNext (s : State) : Bool :=
  s.i == 0 && s.n == 0 &&
    match s.nextCall, s.cs with
    | .tick, .phase .execute => true
    | .run, .phase .execute => true
    | .run, .pause .execute => true
    | _, _ => false

/-- The state in which the bytes `op`, `v` have just been fetched from the address in `R[P]`: they stand in memory there, and the
Fetch tick has latched `op` (R125); a `tick` is the next call, and the profile holds `op`'s instruction if only the optional one
does (log 3). -/
def State.placeFetched (s : State) (op v : Byte) : State :=
  State.fetchTick
    { (s.memWrite s.pc op).memWrite (s.pc + 1) v with
      pending := .tick :: s.pending
      branchIoExt := s.branchIoExt || ((decodePair false (hiNibble op) (loNibble op) v).isNone &&
        (decodePair true (hiNibble op) (loNibble op) v).isSome) }

end Sys2Proof.Machine
end

