-- ==== Sys2Proof/Machine/Step.lean ====
section
/-! DEFINITION. One step of the machine is one host call (spec/00_scope.md R9, spec/40_cycle_fsm.md R121; log 1). -/

namespace Sys2Proof.Machine

/-- Perform the next host call: the oldest pending one, or `tick` when none is pending. -/
def step (s : State) : Host.Outcome State Fault Refusal := perform s.nextCall s.takeCall

/-- The instruction word `w`, of `nbits` bits numbered as the table numbers them, placed so that the next step's Execute tick runs
it: stored at the address in `R[P]`, latched, and `R[P]` past its opcode (R125, R126; log 3). -/
def State.withFetchWord (s : State) (nbits w : Nat) : State :=
  s.placeFetched (tableOpcode nbits w) (tableOperand nbits w)

end Sys2Proof.Machine
end

