-- ==== Sys2Proof/Safety.lean ====
section
/-! DEFINITION. What counts as a safe run, the invariants of the machine, and the predicates the statements are written with. -/

namespace Sys2Proof.Machine

/-! ## Runs -/

/-- No DecodeFailure has been raised: the premise the spec asks of claims about a run (R45, R403). -/
abbrev State.Unfailed (s : State) : Prop := s.fault = none

/-- A safe run of `k` host calls: each is answered, and none raised a DecodeFailure (R403). -/
def SafeRun (k : Nat) (s : State) : Prop := ∃ t : State, Sys2Proof.core.run k s = .next t ∧ t.Unfailed

/-- The end of a run, looked for through `k` host calls: the first state reached after an Idle Execute tick, no DecodeFailure having
been raised; none where the run has not ended by then, or has failed, which is never an end (R13; log 19). -/
def endOfRun : Nat → State → Option State
  | 0, _ => none
  | k + 1, s =>
    match step s with
    | .next t => if t.fault.isSome then none else if s.idlesNext then some t else endOfRun k t
    | .fault _ => none
    | .refused _ => none

/-- `k` events `tick` in a row, with nothing between them (R120, R136). -/
def ticks : Nat → State → Result
  | 0, s => .next s
  | k + 1, s =>
    match perform .tick s with
    | .next t => ticks k t
    | .fault f => .fault f
    | .refused r => .refused r

/-! ## Invariants -/

/-- `B`, `T` and `IE` hold their power-on values (R22, R27, R28). -/
abbrev State.Inert (s : State) : Prop := s.b = 0x00 ∧ s.t = 0x00 ∧ s.ie = true

/-- Init is never the control state between two events, nor the state a pause remembers (R34). -/
abbrev State.LegalControl (s : State) : Prop := s.cs ≠ .phase .init ∧ s.cs ≠ .pause .init

/-- What holds between any two events: memory in canonical form, the inert elements at their values, a legal control state. -/
abbrev State.Inv (s : State) : Prop := Memory.wf s.mem = true ∧ s.Inert ∧ s.LegalControl

/-- The select lines `N0`, `N1`, `N2` are 0 (R32). -/
abbrev State.LinesLow (s : State) : Prop := s.n0 = false ∧ s.n1 = false ∧ s.n2 = false

/-- A machine of the base profile with its select lines at 0 (R2, R32). -/
abbrev State.BaseQuiet (s : State) : Prop := s.branchIoExt = false ∧ s.LinesLow

/-! ## Predicates of the statements -/

/-- The opcode byte `op` has the entry `ins` in the decode table of both profiles, `v` being the byte after the opcode (R93). -/
abbrev EncodedAs (op : Byte) (ins : Byte → Instr) : Prop :=
  ∀ (ext : Bool) (v : Byte), decodePair ext (hiNibble op) (loNibble op) v = some (ins v)

/-- The opcode byte `op` has the entry `ins` in the optional profile's table and none in the base profile's (R99, R300). -/
abbrev EncodedInExt (op : Byte) (ins : Byte → Instr) : Prop :=
  ∀ v : Byte, decodePair true (hiNibble op) (loNibble op) v = some (ins v) ∧ decodePair false (hiNibble op) (loNibble op) v = none

/-- The 67 opcode bytes the base profile leaves undefined, as R96 lists them. -/
abbrev UndefinedInBase (op : Byte) : Prop :=
  (0x30 ≤ op ∧ op ≤ 0x3F) ∨ (0x40 ≤ op ∧ op ≤ 0x4F) ∨ (0x60 ≤ op ∧ op ≤ 0x6F) ∨ op = 0x70 ∨ op = 0x71 ∨ op = 0x78 ∨ op = 0x79 ∨
    (0xC0 ≤ op ∧ op ≤ 0xC3) ∨ (0xC5 ≤ op ∧ op ≤ 0xCF)

/-- The 37 opcode bytes the optional profile leaves undefined, as R300 and 90_conflicts.md C13 list them. -/
abbrev UndefinedInExt (op : Byte) : Prop :=
  (0x40 ≤ op ∧ op ≤ 0x4F) ∨ op = 0x60 ∨ op = 0x68 ∨ op = 0x70 ∨ op = 0x71 ∨ op = 0x78 ∨ op = 0x79 ∨
    (0xC0 ≤ op ∧ op ≤ 0xC3) ∨ (0xC5 ≤ op ∧ op ≤ 0xCF)

/-- The core is about to fail: the Execute phase is due, now or after a pause, with an undefined pair latched (R403). -/
abbrev State.Failing (s : State) : Prop :=
  (s.cs = .phase .execute ∨ s.cs = .pause .execute) ∧ s.latchedInstr = none

/-- `t` differs from `s` in register `k` alone among the registers. -/
abbrev OnlyRegister (k : Nibble) (s t : State) : Prop := ∀ j : Nibble, j ≠ k → t.reg j = s.reg j

/-- Every byte of memory but the one at address `a` reads in `t` as in `s`. -/
abbrev OnlyByte (a : Word) (s t : State) : Prop := ∀ c : Word, c ≠ a → t.memRead c = s.memRead c

/-- What a short branch does: taken, `R[P]` keeps its high byte and takes `aa` as its low byte; not taken, it steps over the operand
byte; no other register and no other element changes (R302). -/
abbrev BranchOutcome (cond : Prop) (aa : Byte) (s t : State) : Prop :=
  (cond → (t.reg s.p).toNat = (s.reg s.p).toNat / 256 * 256 + aa.toNat) ∧
    (¬cond → (t.reg s.p).toNat = ((s.reg s.p).toNat + 1) % 65536) ∧
      OnlyRegister s.p s t ∧ t = { s with r := t.r, cs := .phase .fetch }

/-- What an add-family instruction on the operand `v` does to `D` and `DF`, with carry-in `c` (R210). -/
abbrev AddResult (s t : State) (v : Byte) (c : Nat) : Prop :=
  t.d.toNat = (s.d.toNat + v.toNat + c) % 256 ∧ (t.df = true ↔ 0xFF < s.d.toNat + v.toNat + c)

/-- What a subtract instruction does to `D` and `DF`, with carry-in `c`: minuend plus complemented subtrahend plus `c`, so minuend
minus subtrahend minus the borrow `1 - c`; `DF` = 1 exactly when that is not negative (R215, R224). -/
abbrev SubResult (t : State) (minuend subtrahend : Byte) (c : Nat) : Prop :=
  t.d.toNat = (minuend.toNat + (0xFF - subtrahend.toNat) + c) % 256 ∧
    (t.df = true ↔ 0xFF < minuend.toNat + (0xFF - subtrahend.toNat) + c) ∧
      (t.d.toNat : Int) = ((minuend.toNat : Int) - subtrahend.toNat - (1 - c)) % 256 ∧
        (t.df = true ↔ 0 ≤ (minuend.toNat : Int) - subtrahend.toNat - (1 - c))

/-- The instruction, in this state, writes the program counter or the selector `P` beyond the Fetch increment and an operand byte's
(R463 (b), (c), (d), (f)). -/
def writesPc (ins : Instr) (s : State) : Bool :=
  match ins with
  | .idl => false
  | .ldn _ => false
  | .inc n => n = s.p
  | .dec n => n = s.p
  | .str _ => false
  | .ldxa => s.x = s.p
  | .stxd => s.x = s.p
  | .adc => false
  | .sdb => false
  | .shrc => false
  | .smb => false
  | .req => false
  | .seq => false
  | .adci _ => false
  | .sdbi _ => false
  | .shlc => false
  | .smbi _ => false
  | .glo _ => false
  | .ghi _ => false
  | .plo n => n = s.p
  | .phi n => n = s.p
  | .nop => false
  | .sep _ => true
  | .sex _ => false
  | .ldx => false
  | .or => false
  | .and => false
  | .xor => false
  | .add => false
  | .sd => false
  | .shr => false
  | .sm => false
  | .ldi _ => false
  | .ori _ => false
  | .ani _ => false
  | .xri _ => false
  | .adi _ => false
  | .sdi _ => false
  | .shl => false
  | .smi _ => false
  | .br _ => true
  | .bq _ => true
  | .bz _ => true
  | .bdf _ => true
  | .b1 _ => true
  | .b2 _ => true
  | .b3 _ => true
  | .b4 _ => true
  | .nbr _ => true
  | .bnq _ => true
  | .bnz _ => true
  | .bnf _ => true
  | .bn1 _ => true
  | .bn2 _ => true
  | .bn3 _ => true
  | .bn4 _ => true
  | .out _ => s.x = s.p
  | .inp _ => false

/-- `k` executions in a row of one instruction's rule, each on the state the one before it left. -/
def execTimes (ins : Instr) : Nat → State → Result
  | 0, s => .next s
  | k + 1, s =>
    match exec ins s with
    | .next t => execTimes ins k t
    | .fault f => .fault f
    | .refused r => .refused r

/-- A result with `f` applied to its next state. -/
def mapNext (f : State → State) : Result → Result
  | .next t => .next (f t)
  | .fault r => .fault r
  | .refused r => .refused r

end Sys2Proof.Machine
end

