-- ==== Sys2Proof/Certificates/Slice0/Obligations.lean ====
section
/-! DEFINITION. The statements for the provers. Each docstring names the rule it formalises. -/

open Sys2Proof Sys2Proof.Machine

/-! ## Reset, memory, encoding -/

/-- R450: every element at power-on; a tick in Reset writes the same values again. -/
def Obligations.PowerOnState : Prop :=
  State.reset.d = 0x00 ∧ State.reset.df = false ∧ State.reset.b = 0x00 ∧ (∀ k : Nibble, State.reset.reg k = 0x0000) ∧
    State.reset.p = 0 ∧ State.reset.x = 0 ∧ State.reset.i = 0 ∧ State.reset.n = 0 ∧ State.reset.t = 0x00 ∧
    State.reset.ie = true ∧ State.reset.q = false ∧ State.reset.bus = 0x00 ∧
    State.reset.ef1 = false ∧ State.reset.ef2 = false ∧ State.reset.ef3 = false ∧ State.reset.ef4 = false ∧
    State.reset.LinesLow ∧ (∀ a : Word, State.reset.memRead a = 0x00) ∧ State.reset.cs = .phase .reset ∧
    State.reset.fault = none ∧ tick State.reset = .next State.reset

/-- R61: a byte written is read back, and no other cell or element changes. -/
def Obligations.WriteSetsOneCell : Prop :=
  ∀ (s : State) (a : Word) (v : Byte), Memory.wf s.mem = true →
    (s.memWrite a v).memRead a = v ∧ OnlyByte a s (s.memWrite a v) ∧ s.memWrite a v = { s with mem := (s.memWrite a v).mem }

/-- Every well-formed instruction of the profile decodes from its own encoding, whatever bytes follow. -/
def Obligations.DecodeInvertsEncode : Prop :=
  ∀ (ext : Bool) (ins : Instr) (rest : List Byte), ins.wellFormed = true → ins.availableIn ext = true →
    decode ext (encode ins ++ rest) = .ok (ins, rest)

/-- What decodes to an instruction is that instruction's encoding, and the instruction is well formed and of the profile. -/
def Obligations.EncodeInvertsDecode : Prop :=
  ∀ (ext : Bool) (bytes rest : List Byte) (ins : Instr), decode ext bytes = .ok (ins, rest) →
    bytes = encode ins ++ rest ∧ ins.wellFormed = true ∧ ins.availableIn ext = true

/-- Words written out from the spec's encodings decode to their instructions. -/
def Obligations.SampleWordsDecode : Prop :=
  decodeTableWord 8 0b00000000 = some .idl ∧ decodeTableWord 8 0b00000101 = some (.ldn 5) ∧
    decodeTableWord 8 0b00010011 = some (.inc 3) ∧ decodeTableWord 8 0b01110011 = some .stxd ∧
    decodeTableWord 16 0b0010000011111100 = some (.adi 0x20) ∧ decodeTableWord 8 0b11110110 = some .shr ∧
    decodeTableWord 16 0b1000000011111001 = some (.ori 0x80) ∧ decodeTableWord 8 0b11010100 = some (.sep 4) ∧
    decodeTableWord 16 0b0000110100111010 = some (.bnz 0x0D) ∧ decodeTableWord 8 0b01100100 = some (.out 4) ∧
    decodeTableWord 8 0b01101100 = some (.inp 4) ∧ decodeTableWord 8 0b01101000 = none

/-- R96, R300: the Execute tick raises DecodeFailure exactly on the bytes the spec lists as undefined in the profile. -/
def Obligations.FailsExactlyOnUndefinedBytes : Prop :=
  ∀ s : State, s.cs = .phase .execute →
    ((∃ (t : State) (f : DecodeFailure), perform .tick s = .next t ∧ t.report = some (.decodeFailure f)) ↔
      if s.branchIoExt then UndefinedInExt (opcodeByte s.i s.n) else UndefinedInBase (opcodeByte s.i s.n))

/-! ## The cycle state machine -/

/-- The step at an Execute phase is `exec` of the instruction the latches and the operand byte decode to, on the state with the call
taken, the report cleared and the preamble done (R122, R126; a step is one host call: log 1). -/
def Obligations.StepRunsLatchedInstruction : Prop :=
  ∀ (s : State) (ins : Instr) (rest : List Byte), s.nextCall = .tick → s.cs = .phase .execute →
    decode s.branchIoExt [opcodeByte s.i s.n, s.operandByte] = .ok (ins, rest) →
      step s = exec ins s.takeCall.clearReport.clearLines

/-- R136: from Fetch, the bytes at the program counter are latched by one step and run by the next (a step is one host call: log 1). -/
def Obligations.TwoStepsRunTheInstructionAtPc : Prop :=
  ∀ (s : State) (ins : Instr) (rest : List Byte), s.nextCall = .tick → s.takeCall.nextCall = .tick → s.cs = .phase .fetch →
    decode s.branchIoExt [s.memRead s.pc, s.memRead (s.pc + 1)] = .ok (ins, rest) →
      ∃ u : State, step s = .next u ∧ u = s.takeCall.clearReport.clearLines.fetchTick ∧
        step u = exec ins u.takeCall.clearReport.clearLines

/-- R125: the Fetch tick. -/
def Obligations.FetchTickLatchesOpcode : Prop :=
  ∀ s : State, s.cs = .phase .fetch → ∃ t : State, tick s = .next t ∧
    t.i.toNat = (s.memRead (s.reg s.p)).toNat / 16 ∧ t.n.toNat = (s.memRead (s.reg s.p)).toNat % 16 ∧
    (t.reg s.p).toNat = ((s.reg s.p).toNat + 1) % 65536 ∧ OnlyRegister s.p s t ∧
    t = { s with i := t.i, n := t.n, r := t.r, cs := .phase .execute, n0 := false, n1 := false, n2 := false }

/-- R123, R129: the event `reset`, from every state, and the tick in Reset; only `run` and `pause` leave Reset. That a host call clears
`report` is the model's choice (log 4). -/
def Obligations.ResetEventLeaves : Prop :=
  ∀ s : State,
    perform .reset s = .next { s with cs := .phase .reset, i := 0, n := 0, q := false, ie := true, bus := 0x00,
                                      n0 := false, n1 := false, n2 := false, report := none } ∧
    (s.cs = .phase .reset →
      tick s = .next { s with i := 0, n := 0, q := false, ie := true, bus := 0x00, n0 := false, n1 := false, n2 := false } ∧
      ∀ (c : HostCall) (t : State), c ≠ .run → c ≠ .pause → perform c s = .next t → t.cs = .phase .reset)

/-- R124: the tick in Init. -/
def Obligations.InitTickClears : Prop :=
  ∀ s : State, s.cs = .phase .init → ∃ t : State, tick s = .next t ∧ t.reg 0 = 0x0000 ∧ OnlyRegister 0 s t ∧
    t = { s with x := 0, p := 0, r := t.r, cs := .phase .fetch, n0 := false, n1 := false, n2 := false }

/-- R130: the event `run` in each control state, `started` being the model's record that a `run` was issued (log 8). -/
def Obligations.RunEventTable : Prop :=
  ∀ s : State,
    (s.cs = .phase .reset → perform .run s = perform .tick { s with cs := .phase .init, started := true }) ∧
    (s.cs = .phase .init → perform .run s = .next { s with started := true, report := none }) ∧
    (s.cs = .phase .fetch ∨ s.cs = .phase .execute ∨ s.cs = .phase .forceExecute →
      perform .run s = perform .tick { s with started := true }) ∧
    (∀ prev : Phase, s.cs = .pause prev → perform .run s = perform .tick { s with cs := .phase prev, started := true })

/-- R131, R128: the event `pause` remembers the phase and changes nothing else; ticks in Pause change nothing. That a host call clears
`report` is the model's choice (log 4). -/
def Obligations.PauseFreezes : Prop :=
  ∀ s : State,
    (∀ ph : Phase, s.cs = .phase ph →
      perform .pause s = .next { s with cs := .pause ph, n0 := false, n1 := false, n2 := false, report := none }) ∧
    (∀ prev : Phase, s.cs = .pause prev →
      perform .pause s = .next { s with n0 := false, n1 := false, n2 := false, report := none } ∧
      perform .tick s = .next { s with n0 := false, n1 := false, n2 := false, report := none })

/-- R424: a `pause` and then a `run` give what the `tick` in their place would have given. -/
def Obligations.PauseThenRunIsTick : Prop :=
  ∀ (s : State) (ph : Phase), s.cs = .phase ph →
    ∃ u : State, perform .pause s = .next u ∧ perform .run u = perform .tick { s with started := true }

/-- R402, R135: a failing tick reports the pair and the opcode's address, records the first failure, and changes nothing else but the
cleared select lines (the two fields `report` and `fault` are the model's form of the spec's report: log 4). -/
def Obligations.DecodeFailureChangesNothing : Prop :=
  ∀ s : State, s.cs = .phase .execute → s.latchedInstr = none →
    perform .tick s = .next { s with
      report := some (.decodeFailure { i := s.i, n := s.n, addr := s.reg s.p - 1 })
      fault := some (s.fault.getD { i := s.i, n := s.n, addr := s.reg s.p - 1 })
      n0 := false, n1 := false, n2 := false }

/-- R403: without a `reset` the core never gets past a failing pair, through any number of host calls (the spec's decision D6; that
the machine goes on as a next state is log 4, that memory can no longer be loaded log 8). -/
def Obligations.FailureLastsUntilReset : Prop :=
  ∀ (k : Nat) (s t : State), s.Failing → HostCall.reset ∉ s.pending → Sys2Proof.core.run k s = .next t →
    t.Failing ∧ t.i = s.i ∧ t.n = s.n ∧ t.d = s.d ∧ t.df = s.df ∧ t.r = s.r ∧ t.p = s.p ∧ t.x = s.x ∧ t.q = s.q ∧
      (s.started = true → t.mem = s.mem)

/-- R404, R453: after a failure, as in any state, `reset` and then `run` restart the core: memory and the other registers are kept,
and the first `tick` fetches the byte at address 0. -/
def Obligations.ResetThenRunRestarts : Prop :=
  ∀ s : State, ∃ r u t : State, perform .reset s = .next r ∧ perform .run r = .next u ∧ perform .tick u = .next t ∧
    r.cs = .phase .reset ∧ r.i = 0 ∧ r.n = 0 ∧ r.p = s.p ∧ r.x = s.x ∧ r.r = s.r ∧ r.mem = s.mem ∧
    u.cs = .phase .fetch ∧ u.p = 0 ∧ u.x = 0 ∧ u.reg 0 = 0x0000 ∧ OnlyRegister 0 s u ∧ u.ie = true ∧
    u.d = s.d ∧ u.df = s.df ∧ u.mem = s.mem ∧ u.fault = s.fault ∧
    t.i.toNat = (s.memRead 0x0000).toNat / 16 ∧ t.n.toNat = (s.memRead 0x0000).toNat % 16 ∧ t.reg 0 = 0x0001

/-- The first DecodeFailure is recorded and nothing clears the record (R45; the field is the model's choice, log 4). -/
def Obligations.FaultRecordIsSticky : Prop :=
  ∀ s t : State, step s = .next t →
    (∀ f : DecodeFailure, s.fault = some f → t.fault = some f) ∧
    (∀ f : DecodeFailure, s.fault = none → t.fault = some f →
      t.report = some (.decodeFailure f) ∧ f = { i := s.i, n := s.n, addr := s.reg s.p - 1 })

/-- R137: an instruction that writes neither the program counter nor `P` leaves `pc` advanced by its length: 1, or 2 with an operand
byte; NOP takes one tick more for the same advance; IDL, once fetched, leaves `pc` alone for any number of ticks. -/
def Obligations.PcAdvancesByLength : Prop :=
  ∀ (s : State) (ins : Instr) (rest : List Byte), s.cs = .phase .fetch →
    decode s.branchIoExt [s.memRead s.pc, s.memRead (s.pc + 1)] = .ok (ins, rest) → writesPc ins s = false →
      (ins ≠ .idl → ∃ t : State, ticks (if ins = .nop then 3 else 2) s = .next t ∧ t.cs = .phase .fetch ∧
        t.p = s.p ∧ t.pc = s.pc + BitVec.ofNat 16 (encode ins).length) ∧
      (ins = .idl → ∀ k : Nat, ∃ t : State, ticks (k + 1) s = .next t ∧ t.p = s.p ∧ t.pc = s.pc + 1)

/-- R160 (the spec's decision D3): IDL puts `M[R[0]]` on `BUS` and stays in Execute; so the core idles for as long as only ticks come:
the program counter and every other element stay, `BUS` is rewritten. -/
def Obligations.IdleRepeatsForEver : Prop :=
  EncodedAs 0x00 (fun _ => .idl) ∧
  (∀ s : State, exec .idl s = .next { s with bus := s.memRead (s.reg 0), cs := .phase .execute }) ∧
  ∀ (k : Nat) (s : State), s.cs = .phase .execute → s.i = 0 → s.n = 0 →
    ticks (k + 1) s = .next { s with bus := s.memRead (s.reg 0), n0 := false, n1 := false, n2 := false, report := none }

/-- The invariant of the machine is kept by every step. -/
def Obligations.StepKeepsInv : Prop := ∀ s t : State, s.Inv → step s = .next t → t.Inv

/-- The invariants hold at power-on. -/
def Obligations.ResetHasInvariants : Prop := State.reset.Inv ∧ State.reset.BaseQuiet

/-- R32: in the base profile the select lines stay 0, and the profile never changes. -/
def Obligations.StepKeepsBaseQuiet : Prop := ∀ s t : State, s.BaseQuiet → step s = .next t → t.BaseQuiet

/-- R406: no step faults; the model gives no next state in one case alone, a load after the first `run` (log 8). -/
def Obligations.OnlyLateLoadStops : Prop :=
  ∀ s : State, (∃ t : State, step s = .next t) ∨
    (step s = .refused .loadAfterFirstRun ∧ s.started = true ∧ ∃ (a : Nat) (v : Byte), s.nextCall = .load a v)

/-- R134 (the spec's decision D3 for IDL): every instruction's rule completes and selects Fetch, but NOP ForceExecute and IDL Execute. -/
def Obligations.ExecSelectsNextPhase : Prop :=
  ∀ (ins : Instr) (s : State), ∃ t : State, exec ins s = .next t ∧
    t.cs = (if ins = .nop then .phase .forceExecute else if ins = .idl then .phase .execute else .phase .fetch)

/-- Who writes what (R21, R24, R25, R29, R30, R73): an instruction that changes an element is one the spec names as its writer. -/
def Obligations.OnlyNamedInstructionsWrite : Prop :=
  ∀ (ins : Instr) (s t : State), exec ins s = .next t →
    (t.p = s.p ∨ ∃ n, ins = .sep n) ∧ (t.x = s.x ∨ ∃ n, ins = .sex n) ∧ (t.q = s.q ∨ ins = .seq ∨ ins = .req) ∧
    (t.bus = s.bus ∨ ins = .idl ∨ ∃ dev, ins = .out dev) ∧
    (t.mem = s.mem ∨ ins = .stxd ∨ (∃ n, ins = .str n) ∨ ∃ dev, ins = .inp dev) ∧
    (t.df = s.df ∨ ins ∈ [.add, .adc, .sd, .sdb, .sm, .smb, .shr, .shrc, .shl, .shlc] ∨
      ∃ v, ins ∈ [.adi v, .adci v, .sdi v, .sdbi v, .smi v, .smbi v])

/-- R22, R27, R28: `B`, `T` and `IE` are read by no instruction and written by none: changing them changes nothing else. -/
def Obligations.InertElementsAreUnreachable : Prop :=
  ∀ (ins : Instr) (s : State) (b t : Byte) (ie : Bool),
    exec ins { s with b := b, t := t, ie := ie } = mapNext (fun u => { u with b := b, t := t, ie := ie }) (exec ins s)

/-- R31: in the base profile no event reads or changes the external flags. -/
def Obligations.BaseProfileIgnoresFlags : Prop :=
  ∀ (s : State) (e1 e2 e3 e4 : Bool) (c : HostCall), s.branchIoExt = false → c ∈ [.tick, .reset, .run, .pause] →
    perform c { s with ef1 := e1, ef2 := e2, ef3 := e3, ef4 := e4 } =
      mapNext (fun u => { u with ef1 := e1, ef2 := e2, ef3 := e3, ef4 := e4 }) (perform c s)

/-- R71: a store through the program counter is what the next Fetch tick latches. -/
def Obligations.StoreIsSeenByNextFetch : Prop :=
  ∀ s : State, Memory.wf s.mem = true → ∃ t u : State, exec (.str s.p) s = .next t ∧ tick t = .next u ∧
    u.i.toNat = s.d.toNat / 16 ∧ u.n.toNat = s.d.toNat % 16

/-! ## IDL, loads and stores -/

/-- R161: LDN, for N = 1..15. -/
def Obligations.LdnLoadsViaN : Prop :=
  ∀ n : Nibble, n ≠ 0 → EncodedAs (BitVec.ofNat 8 n.toNat) (fun _ => .ldn n) ∧
    ∀ s : State, exec (.ldn n) s = .next { s with d := s.memRead (s.reg n), cs := .phase .fetch }

/-- R190, R191: LDX and LDXA; LDXA steps `R[X]`, which may be the program counter. -/
def Obligations.LdxLdxaLoadViaX : Prop :=
  EncodedAs 0xF0 (fun _ => .ldx) ∧ EncodedAs 0x72 (fun _ => .ldxa) ∧
  ∀ s : State, exec .ldx s = .next { s with d := s.memRead (s.reg s.x), cs := .phase .fetch } ∧
    ∃ t : State, exec .ldxa s = .next t ∧ (t.reg s.x).toNat = ((s.reg s.x).toNat + 1) % 65536 ∧ OnlyRegister s.x s t ∧
      t = { s with d := s.memRead (s.reg s.x), r := t.r, cs := .phase .fetch }

/-- R194: LDI; the operand byte is the one at `R[P]`, stepped over. -/
def Obligations.LdiLoadsImmediate : Prop :=
  EncodedAs 0xF8 .ldi ∧
  ∀ (v : Byte) (s : State), ∃ t : State, exec (.ldi v) s = .next t ∧
    (t.reg s.p).toNat = ((s.reg s.p).toNat + 1) % 65536 ∧ OnlyRegister s.p s t ∧ t = { s with d := v, r := t.r, cs := .phase .fetch }

/-- R195: each of the ten instructions of format IMM runs with the byte at `R[P]` as its operand and steps `R[P]` past it; that byte is
the one after the opcode the Fetch tick read. -/
def Obligations.ImmFetchReadsAtPc : Prop :=
  (∀ s : State, s.cs = .phase .fetch → ∃ u : State, tick s = .next u ∧ u.memRead (u.reg u.p) = s.memRead (s.reg s.p + 1)) ∧
  ∀ (s : State) (ins : Byte → Instr),
    ins ∈ [Instr.ldi, .adi, .adci, .sdi, .sdbi, .smi, .smbi, .ori, .ani, .xri] →
    s.latchedInstr = some (ins s.operandByte) →
      executeTick s = exec (ins (s.memRead (s.reg s.p))) s ∧
      ∃ t : State, exec (ins (s.memRead (s.reg s.p))) s = .next t ∧
        (t.reg s.p).toNat = ((s.reg s.p).toNat + 1) % 65536 ∧ t.p = s.p ∧ OnlyRegister s.p s t

/-- R192: STR stores `D` at `R[N]` and changes nothing else. -/
def Obligations.StrStoresViaN : Prop :=
  ∀ n : Nibble, EncodedAs (BitVec.ofNat 8 (0x50 + n.toNat)) (fun _ => .str n) ∧
    ∀ s : State, Memory.wf s.mem = true → ∃ t : State, exec (.str n) s = .next t ∧
      t.memRead (s.reg n) = s.d ∧ OnlyByte (s.reg n) s t ∧ t = { s with mem := t.mem, cs := .phase .fetch }

/-- R193: STXD stores `D` at the old `R[X]`, then decrements `R[X]`. -/
def Obligations.StxdStoresAndDecrements : Prop :=
  EncodedAs 0x73 (fun _ => .stxd) ∧
  ∀ s : State, Memory.wf s.mem = true → ∃ t : State, exec .stxd s = .next t ∧
    t.memRead (s.reg s.x) = s.d ∧ OnlyByte (s.reg s.x) s t ∧
    (t.reg s.x).toNat = ((s.reg s.x).toNat + 65535) % 65536 ∧ OnlyRegister s.x s t ∧
    t = { s with mem := t.mem, r := t.r, cs := .phase .fetch }

/-! ## Register instructions -/

/-- R170, R171: INC and DEC, modulo 2^16, and the laws of `k` of them in a row. -/
def Obligations.IncDecWrap : Prop :=
  ∀ n : Nibble, EncodedAs (BitVec.ofNat 8 (0x10 + n.toNat)) (fun _ => .inc n) ∧
    EncodedAs (BitVec.ofNat 8 (0x20 + n.toNat)) (fun _ => .dec n) ∧
    ∀ s : State,
      (∃ t : State, exec (.inc n) s = .next t ∧ (t.reg n).toNat = ((s.reg n).toNat + 1) % 65536 ∧
        OnlyRegister n s t ∧ t = { s with r := t.r, cs := .phase .fetch }) ∧
      (∃ t : State, exec (.dec n) s = .next t ∧ (t.reg n).toNat = ((s.reg n).toNat + 65535) % 65536 ∧
        OnlyRegister n s t ∧ t = { s with r := t.r, cs := .phase .fetch }) ∧
      ∀ k : Nat,
        (∃ t : State, execTimes (.inc n) k s = .next t ∧ (t.reg n).toNat = ((s.reg n).toNat + k) % 65536 ∧
          OnlyRegister n s t) ∧
        (∃ t : State, execTimes (.dec n) k s = .next t ∧
          ((t.reg n).toNat : Int) = (((s.reg n).toNat : Int) - k) % 65536 ∧ OnlyRegister n s t)

/-- R172, R173: GLO and GHI copy a byte of `R[N]` into `D`. -/
def Obligations.GloGhiReadBytes : Prop :=
  ∀ n : Nibble, EncodedAs (BitVec.ofNat 8 (0x80 + n.toNat)) (fun _ => .glo n) ∧
    EncodedAs (BitVec.ofNat 8 (0x90 + n.toNat)) (fun _ => .ghi n) ∧
    ∀ s : State,
      (∃ t : State, exec (.glo n) s = .next t ∧ t.d.toNat = (s.reg n).toNat % 256 ∧ t = { s with d := t.d, cs := .phase .fetch }) ∧
      (∃ t : State, exec (.ghi n) s = .next t ∧ t.d.toNat = (s.reg n).toNat / 256 ∧ t = { s with d := t.d, cs := .phase .fetch })

/-- R174, R175: PLO and PHI replace one byte of `R[N]` by `D` and keep the other. -/
def Obligations.PloPhiWriteBytes : Prop :=
  ∀ n : Nibble, EncodedAs (BitVec.ofNat 8 (0xA0 + n.toNat)) (fun _ => .plo n) ∧
    EncodedAs (BitVec.ofNat 8 (0xB0 + n.toNat)) (fun _ => .phi n) ∧
    ∀ s : State,
      (∃ t : State, exec (.plo n) s = .next t ∧ (t.reg n).toNat = (s.reg n).toNat / 256 * 256 + s.d.toNat ∧
        OnlyRegister n s t ∧ t = { s with r := t.r, cs := .phase .fetch }) ∧
      (∃ t : State, exec (.phi n) s = .next t ∧ (t.reg n).toNat = s.d.toNat * 256 + (s.reg n).toNat % 256 ∧
        OnlyRegister n s t ∧ t = { s with r := t.r, cs := .phase .fetch })

/-! ## Arithmetic -/

/-- R211, R213 (and R210): ADD and ADC with the byte at `R[X]`. -/
def Obligations.AddAdcResult : Prop :=
  EncodedAs 0xF4 (fun _ => .add) ∧ EncodedAs 0x74 (fun _ => .adc) ∧
  ∀ s : State,
    (∃ t : State, exec .add s = .next t ∧ AddResult s t (s.memRead (s.reg s.x)) 0 ∧
      t = { s with d := t.d, df := t.df, cs := .phase .fetch }) ∧
    (∃ t : State, exec .adc s = .next t ∧ AddResult s t (s.memRead (s.reg s.x)) (if s.df then 1 else 0) ∧
      t = { s with d := t.d, df := t.df, cs := .phase .fetch })

/-- R212, R214: ADI and ADCI with the operand byte, `R[P]` stepped past it. -/
def Obligations.AdiAdciResult : Prop :=
  EncodedAs 0xFC .adi ∧ EncodedAs 0x7C .adci ∧
  ∀ (v : Byte) (s : State),
    (∃ t : State, exec (.adi v) s = .next t ∧ AddResult s t v 0 ∧ (t.reg s.p).toNat = ((s.reg s.p).toNat + 1) % 65536 ∧
      OnlyRegister s.p s t ∧ t = { s with d := t.d, df := t.df, r := t.r, cs := .phase .fetch }) ∧
    (∃ t : State, exec (.adci v) s = .next t ∧ AddResult s t v (if s.df then 1 else 0) ∧
      (t.reg s.p).toNat = ((s.reg s.p).toNat + 1) % 65536 ∧ OnlyRegister s.p s t ∧
      t = { s with d := t.d, df := t.df, r := t.r, cs := .phase .fetch })

/-- R216, R218: SD and SDB, the byte at `R[X]` minus `D`; `DF` = 1 means no borrow (R224). -/
def Obligations.SdSdbResult : Prop :=
  EncodedAs 0xF5 (fun _ => .sd) ∧ EncodedAs 0x75 (fun _ => .sdb) ∧
  ∀ s : State,
    (∃ t : State, exec .sd s = .next t ∧ SubResult t (s.memRead (s.reg s.x)) s.d 1 ∧
      t = { s with d := t.d, df := t.df, cs := .phase .fetch }) ∧
    (∃ t : State, exec .sdb s = .next t ∧ SubResult t (s.memRead (s.reg s.x)) s.d (if s.df then 1 else 0) ∧
      t = { s with d := t.d, df := t.df, cs := .phase .fetch })

/-- R217, R219: SDI and SDBI, the operand byte minus `D`; the form with the borrow is R215's, which the spec derives. -/
def Obligations.SdiSdbiResult : Prop :=
  EncodedAs 0xFD .sdi ∧ EncodedAs 0x7D .sdbi ∧
  ∀ (v : Byte) (s : State),
    (∃ t : State, exec (.sdi v) s = .next t ∧ SubResult t v s.d 1 ∧ (t.reg s.p).toNat = ((s.reg s.p).toNat + 1) % 65536 ∧
      OnlyRegister s.p s t ∧ t = { s with d := t.d, df := t.df, r := t.r, cs := .phase .fetch }) ∧
    (∃ t : State, exec (.sdbi v) s = .next t ∧ SubResult t v s.d (if s.df then 1 else 0) ∧
      (t.reg s.p).toNat = ((s.reg s.p).toNat + 1) % 65536 ∧ OnlyRegister s.p s t ∧
      t = { s with d := t.d, df := t.df, r := t.r, cs := .phase .fetch })

/-- R220, R222: SM and SMB, `D` minus the byte at `R[X]`. -/
def Obligations.SmSmbResult : Prop :=
  EncodedAs 0xF7 (fun _ => .sm) ∧ EncodedAs 0x77 (fun _ => .smb) ∧
  ∀ s : State,
    (∃ t : State, exec .sm s = .next t ∧ SubResult t s.d (s.memRead (s.reg s.x)) 1 ∧
      t = { s with d := t.d, df := t.df, cs := .phase .fetch }) ∧
    (∃ t : State, exec .smb s = .next t ∧ SubResult t s.d (s.memRead (s.reg s.x)) (if s.df then 1 else 0) ∧
      t = { s with d := t.d, df := t.df, cs := .phase .fetch })

/-- R221, R223: SMI and SMBI, `D` minus the operand byte; the form with the borrow is R215's, which the spec derives. -/
def Obligations.SmiSmbiResult : Prop :=
  EncodedAs 0xFF .smi ∧ EncodedAs 0x7F .smbi ∧
  ∀ (v : Byte) (s : State),
    (∃ t : State, exec (.smi v) s = .next t ∧ SubResult t s.d v 1 ∧ (t.reg s.p).toNat = ((s.reg s.p).toNat + 1) % 65536 ∧
      OnlyRegister s.p s t ∧ t = { s with d := t.d, df := t.df, r := t.r, cs := .phase .fetch }) ∧
    (∃ t : State, exec (.smbi v) s = .next t ∧ SubResult t s.d v (if s.df then 1 else 0) ∧
      (t.reg s.p).toNat = ((s.reg s.p).toNat + 1) % 65536 ∧ OnlyRegister s.p s t ∧
      t = { s with d := t.d, df := t.df, r := t.r, cs := .phase .fetch })

/-- R224: SMI on the low bytes, then SMBI on the high bytes with the flag as the first left it, subtract sixteen bits; and ADI then
ADCI add them. -/
def Obligations.ChainedBytesMakeSixteenBits : Prop :=
  ∀ (s : State) (a b : Word),
    (∃ t u : State, exec (.smi (lowByte b)) { s with d := lowByte a } = .next t ∧
      exec (.smbi (highByte b)) { t with d := highByte a } = .next u ∧
      ((u.d.toNat * 256 + t.d.toNat : Nat) : Int) = ((a.toNat : Int) - b.toNat) % 65536 ∧ (u.df = true ↔ b.toNat ≤ a.toNat)) ∧
    (∃ t u : State, exec (.adi (lowByte b)) { s with d := lowByte a } = .next t ∧
      exec (.adci (highByte b)) { t with d := highByte a } = .next u ∧
      u.d.toNat * 256 + t.d.toNat = (a.toNat + b.toNat) % 65536 ∧ (u.df = true ↔ 65536 ≤ a.toNat + b.toNat))

/-! ## Logic and shifts -/

/-- R240, R241, R242, R250: OR, AND, XOR with the byte at `R[X]`, bit by bit; `DF` is left alone. -/
def Obligations.LogicViaX : Prop :=
  EncodedAs 0xF1 (fun _ => .or) ∧ EncodedAs 0xF2 (fun _ => .and) ∧ EncodedAs 0xF3 (fun _ => .xor) ∧
  ∀ s : State, ∃ o a x : State, exec .or s = .next o ∧ exec .and s = .next a ∧ exec .xor s = .next x ∧
    (∀ k : Nat, o.d.getLsbD k = (s.d.getLsbD k || (s.memRead (s.reg s.x)).getLsbD k) ∧
      a.d.getLsbD k = (s.d.getLsbD k && (s.memRead (s.reg s.x)).getLsbD k) ∧
      x.d.getLsbD k = (s.d.getLsbD k ^^ (s.memRead (s.reg s.x)).getLsbD k)) ∧
    o = { s with d := o.d, cs := .phase .fetch } ∧ a = { s with d := a.d, cs := .phase .fetch } ∧
    x = { s with d := x.d, cs := .phase .fetch }

/-- R243, R244, R245: ORI, ANI, XRI with the operand byte, bit by bit, `R[P]` stepped past it. -/
def Obligations.LogicImmediate : Prop :=
  EncodedAs 0xF9 .ori ∧ EncodedAs 0xFA .ani ∧ EncodedAs 0xFB .xri ∧
  ∀ (v : Byte) (s : State), ∃ o a x : State, exec (.ori v) s = .next o ∧ exec (.ani v) s = .next a ∧ exec (.xri v) s = .next x ∧
    (∀ k : Nat, o.d.getLsbD k = (s.d.getLsbD k || v.getLsbD k) ∧ a.d.getLsbD k = (s.d.getLsbD k && v.getLsbD k) ∧
      x.d.getLsbD k = (s.d.getLsbD k ^^ v.getLsbD k)) ∧
    ∀ t ∈ [o, a, x], (t.reg s.p).toNat = ((s.reg s.p).toNat + 1) % 65536 ∧ OnlyRegister s.p s t ∧
      t = { s with d := t.d, r := t.r, cs := .phase .fetch }

/-- R246, R248: SHR and SHL shift a 0 in and the bit pushed out into `DF`. -/
def Obligations.ShiftsPushOutIntoDf : Prop :=
  EncodedAs 0xF6 (fun _ => .shr) ∧ EncodedAs 0xFE (fun _ => .shl) ∧
  ∀ s : State,
    (∃ t : State, exec .shr s = .next t ∧ t.d.toNat = s.d.toNat / 2 ∧ (t.df = true ↔ s.d.toNat % 2 = 1) ∧
      t = { s with d := t.d, df := t.df, cs := .phase .fetch }) ∧
    (∃ t : State, exec .shl s = .next t ∧ t.d.toNat = s.d.toNat * 2 % 256 ∧ (t.df = true ↔ 128 ≤ s.d.toNat) ∧
      t = { s with d := t.d, df := t.df, cs := .phase .fetch })

/-- R247, R249: SHRC and SHLC shift the old `DF` in and the bit pushed out into `DF`. -/
def Obligations.RotatesThroughDf : Prop :=
  EncodedAs 0x76 (fun _ => .shrc) ∧ EncodedAs 0x7E (fun _ => .shlc) ∧
  ∀ s : State,
    (∃ t : State, exec .shrc s = .next t ∧ t.d.toNat = (if s.df then 128 else 0) + s.d.toNat / 2 ∧
      (t.df = true ↔ s.d.toNat % 2 = 1) ∧ t = { s with d := t.d, df := t.df, cs := .phase .fetch }) ∧
    (∃ t : State, exec .shlc s = .next t ∧ t.d.toNat = s.d.toNat * 2 % 256 + (if s.df then 1 else 0) ∧
      (t.df = true ↔ 128 ≤ s.d.toNat) ∧ t = { s with d := t.d, df := t.df, cs := .phase .fetch })

/-- R251: SHLC then SHRC, SHRC then SHLC, nine SHLC and nine SHRC each restore `D` and `DF`; SHL then SHR keeps bits 6..0 alone. -/
def Obligations.ShiftRoundTrips : Prop :=
  ∀ s : State,
    (∃ t u : State, exec .shlc s = .next t ∧ exec .shrc t = .next u ∧ u.d = s.d ∧ u.df = s.df) ∧
    (∃ t u : State, exec .shrc s = .next t ∧ exec .shlc t = .next u ∧ u.d = s.d ∧ u.df = s.df) ∧
    (∃ t : State, execTimes .shlc 9 s = .next t ∧ t.d = s.d ∧ t.df = s.df) ∧
    (∃ t : State, execTimes .shrc 9 s = .next t ∧ t.d = s.d ∧ t.df = s.df) ∧
    (∃ t u : State, exec .shl s = .next t ∧ exec .shr t = .next u ∧ u.d.toNat = s.d.toNat % 128)

/-! ## Control -/

/-- R260, R261: SEP and SEX set a selector and touch no register content. -/
def Obligations.SepSexSelect : Prop :=
  ∀ n : Nibble, EncodedAs (BitVec.ofNat 8 (0xD0 + n.toNat)) (fun _ => .sep n) ∧
    EncodedAs (BitVec.ofNat 8 (0xE0 + n.toNat)) (fun _ => .sex n) ∧
    ∀ s : State, exec (.sep n) s = .next { s with p := n, cs := .phase .fetch } ∧
      exec (.sex n) s = .next { s with x := n, cs := .phase .fetch }

/-- R262, R263: SEQ and REQ. -/
def Obligations.SeqReqDriveQ : Prop :=
  EncodedAs 0x7B (fun _ => .seq) ∧ EncodedAs 0x7A (fun _ => .req) ∧
  ∀ s : State, exec .seq s = .next { s with q := true, cs := .phase .fetch } ∧
    exec .req s = .next { s with q := false, cs := .phase .fetch }

/-- R264, R127: NOP's Execute tick selects ForceExecute, whose tick selects Fetch; neither mutates a register. -/
def Obligations.NopBurnsOneTick : Prop :=
  EncodedAs 0xC4 (fun _ => .nop) ∧
  ∀ s : State, exec .nop s = .next { s with cs := .phase .forceExecute } ∧
    (s.cs = .phase .forceExecute → tick s = .next { s with cs := .phase .fetch, n0 := false, n1 := false, n2 := false })

/-! ## The optional profile -/

/-- R303 to R306 and R311 to R314 (with R302): BR always branches, NBR never; the branches on `Q`, `D` and `DF`. -/
def Obligations.BranchesOnQDAndDf : Prop :=
  EncodedInExt 0x30 .br ∧ EncodedInExt 0x38 .nbr ∧
  EncodedInExt 0x31 .bq ∧ EncodedInExt 0x32 .bz ∧ EncodedInExt 0x33 .bdf ∧
  EncodedInExt 0x39 .bnq ∧ EncodedInExt 0x3A .bnz ∧ EncodedInExt 0x3B .bnf ∧
  ∀ (aa : Byte) (s : State),
    (∃ t : State, exec (.br aa) s = .next t ∧ BranchOutcome True aa s t) ∧
    (∃ t : State, exec (.nbr aa) s = .next t ∧ BranchOutcome False aa s t) ∧
    (∃ t : State, exec (.bq aa) s = .next t ∧ BranchOutcome (s.q = true) aa s t) ∧
    (∃ t : State, exec (.bz aa) s = .next t ∧ BranchOutcome (s.d = 0x00) aa s t) ∧
    (∃ t : State, exec (.bdf aa) s = .next t ∧ BranchOutcome (s.df = true) aa s t) ∧
    (∃ t : State, exec (.bnq aa) s = .next t ∧ BranchOutcome (s.q = false) aa s t) ∧
    (∃ t : State, exec (.bnz aa) s = .next t ∧ BranchOutcome (s.d ≠ 0x00) aa s t) ∧
    (∃ t : State, exec (.bnf aa) s = .next t ∧ BranchOutcome (s.df = false) aa s t)

/-- R307 to R310 and R315 to R318 (with R302): the branches on the external flags. -/
def Obligations.BranchesOnExternalFlags : Prop :=
  EncodedInExt 0x34 .b1 ∧ EncodedInExt 0x35 .b2 ∧ EncodedInExt 0x36 .b3 ∧ EncodedInExt 0x37 .b4 ∧
  EncodedInExt 0x3C .bn1 ∧ EncodedInExt 0x3D .bn2 ∧ EncodedInExt 0x3E .bn3 ∧ EncodedInExt 0x3F .bn4 ∧
  ∀ (aa : Byte) (s : State),
    (∃ t : State, exec (.b1 aa) s = .next t ∧ BranchOutcome (s.ef1 = true) aa s t) ∧
    (∃ t : State, exec (.b2 aa) s = .next t ∧ BranchOutcome (s.ef2 = true) aa s t) ∧
    (∃ t : State, exec (.b3 aa) s = .next t ∧ BranchOutcome (s.ef3 = true) aa s t) ∧
    (∃ t : State, exec (.b4 aa) s = .next t ∧ BranchOutcome (s.ef4 = true) aa s t) ∧
    (∃ t : State, exec (.bn1 aa) s = .next t ∧ BranchOutcome (s.ef1 = false) aa s t) ∧
    (∃ t : State, exec (.bn2 aa) s = .next t ∧ BranchOutcome (s.ef2 = false) aa s t) ∧
    (∃ t : State, exec (.bn3 aa) s = .next t ∧ BranchOutcome (s.ef3 = false) aa s t) ∧
    (∃ t : State, exec (.bn4 aa) s = .next t ∧ BranchOutcome (s.ef4 = false) aa s t)

/-- R319: OUT shows the device, puts the byte at `R[X]` on `BUS` and steps `R[X]`. -/
def Obligations.OutDrivesBusAndLines : Prop :=
  ∀ dev : BitVec 3, dev ≠ 0 → EncodedInExt (BitVec.ofNat 8 (0x60 + dev.toNat)) (fun _ => .out dev) ∧
    ∀ s : State, ∃ t : State, exec (.out dev) s = .next t ∧ t.bus = s.memRead (s.reg s.x) ∧
      dev.toNat = t.n0.toNat + 2 * t.n1.toNat + 4 * t.n2.toNat ∧
      (t.reg s.x).toNat = ((s.reg s.x).toNat + 1) % 65536 ∧ OnlyRegister s.x s t ∧
      t = { s with bus := t.bus, r := t.r, n0 := t.n0, n1 := t.n1, n2 := t.n2, cs := .phase .fetch }

/-- R320: INP shows the device and stores `BUS` at `R[X]` and in `D`. -/
def Obligations.InpReadsBusAndShowsDevice : Prop :=
  ∀ dev : BitVec 3, dev ≠ 0 → EncodedInExt (BitVec.ofNat 8 (0x68 + dev.toNat)) (fun _ => .inp dev) ∧
    ∀ s : State, Memory.wf s.mem = true → ∃ t : State, exec (.inp dev) s = .next t ∧
      t.memRead (s.reg s.x) = s.bus ∧ OnlyByte (s.reg s.x) s t ∧
      dev.toNat = t.n0.toNat + 2 * t.n1.toNat + 4 * t.n2.toNat ∧
      t = { s with d := s.bus, mem := t.mem, n0 := t.n0, n1 := t.n1, n2 := t.n2, cs := .phase .fetch }

/-! ## The host between events -/

/-- R72: before the first `run` the loader writes any one cell, an address outside memory is refused and writes nothing; after it the
model refuses the call (log 8). -/
def Obligations.LoadOnlyBeforeFirstRun : Prop :=
  ∀ (s : State) (a : Nat) (v : Byte), Memory.wf s.mem = true →
    (s.started = false → a < 65536 → ∃ t : State, perform (.load a v) s = .next t ∧
      t.memRead (BitVec.ofNat 16 a) = v ∧ OnlyByte (BitVec.ofNat 16 a) s t ∧ t = { s with mem := t.mem, report := none }) ∧
    (s.started = false → 65536 ≤ a → perform (.load a v) s = .next { s with report := some .invalidLoadAddress }) ∧
    (s.started = true → perform (.load a v) s = .refused .loadAfterFirstRun)

/-- R30, R31, R405: the environment sets an external flag or writes `BUS`; an argument out of range is refused and reported (which of
two failures comes first is the model's choice, log 9). -/
def Obligations.StimuliAreChecked : Prop :=
  ∀ (s : State) (value : Nat),
    (∀ index : Nat, index ∉ [1, 2, 3, 4] → perform (.setFlag index value) s = .next { s with report := some .invalidFlagId }) ∧
    (∀ index ∈ [1, 2, 3, 4], 1 < value → perform (.setFlag index value) s = .next { s with report := some .invalidStimulusValue }) ∧
    (value ≤ 1 →
      perform (.setFlag 1 value) s = .next { s with ef1 := value = 1, report := none } ∧
      perform (.setFlag 2 value) s = .next { s with ef2 := value = 1, report := none } ∧
      perform (.setFlag 3 value) s = .next { s with ef3 := value = 1, report := none } ∧
      perform (.setFlag 4 value) s = .next { s with ef4 := value = 1, report := none }) ∧
    (value ≤ 0xFF → perform (.setBus value) s = .next { s with bus := BitVec.ofNat 8 value, report := none }) ∧
    (0xFF < value → perform (.setBus value) s = .next { s with report := some .invalidStimulusValue })

/-! ## The end of a run -/

/-- R13: the end of a run, which the spec leaves to the model and the model takes as D25 suggests (log 19). An Idle Execute tick of a run
that has not failed ends it; the end state is in Execute with the pair (0, 0) latched and `M[R[0]]` on `BUS`, it is the same however far
the run is followed, and further ticks do not change it; a run that has failed has no end. -/
def Obligations.RunEndsAtFirstIdleTick : Prop :=
  (∀ (k : Nat) (s : State), s.fault = none → s.idlesNext = true → ∃ t : State, step s = .next t ∧ endOfRun (k + 1) s = some t) ∧
  (∀ (k : Nat) (s t : State), endOfRun k s = some t →
    t.cs = .phase .execute ∧ t.i = 0 ∧ t.n = 0 ∧ t.bus = t.memRead (t.reg 0) ∧ t.fault = none ∧
    (∃ (j : Nat) (u : State), j < k ∧ Sys2Proof.core.run j s = .next u ∧ u.idlesNext = true ∧ step u = .next t ∧
      ∀ (m : Nat) (w : State), m < j → Sys2Proof.core.run m s = .next w → w.idlesNext = false) ∧
    (∀ j : Nat, endOfRun (k + j) s = some t) ∧ ∀ j : Nat, ticks j t = .next t) ∧
  ∀ (k : Nat) (s : State), s.fault ≠ none → endOfRun k s = none
end

