-- ==== Sys2Proof/Laws/State.lean ====
section
/-! SUPPORT. One lemma per field of the state per named update, each true by `rfl`: later proofs unfold no record update. -/

namespace Sys2Proof.Machine

variable (s : State)

@[simp] theorem State.memWrite_d (a : Word) (v : Byte) : (s.memWrite a v).d = s.d := rfl
@[simp] theorem State.memWrite_df (a : Word) (v : Byte) : (s.memWrite a v).df = s.df := rfl
@[simp] theorem State.memWrite_b (a : Word) (v : Byte) : (s.memWrite a v).b = s.b := rfl
@[simp] theorem State.memWrite_r (a : Word) (v : Byte) : (s.memWrite a v).r = s.r := rfl
@[simp] theorem State.memWrite_p (a : Word) (v : Byte) : (s.memWrite a v).p = s.p := rfl
@[simp] theorem State.memWrite_x (a : Word) (v : Byte) : (s.memWrite a v).x = s.x := rfl
@[simp] theorem State.memWrite_i (a : Word) (v : Byte) : (s.memWrite a v).i = s.i := rfl
@[simp] theorem State.memWrite_n (a : Word) (v : Byte) : (s.memWrite a v).n = s.n := rfl
@[simp] theorem State.memWrite_t (a : Word) (v : Byte) : (s.memWrite a v).t = s.t := rfl
@[simp] theorem State.memWrite_ie (a : Word) (v : Byte) : (s.memWrite a v).ie = s.ie := rfl
@[simp] theorem State.memWrite_q (a : Word) (v : Byte) : (s.memWrite a v).q = s.q := rfl
@[simp] theorem State.memWrite_bus (a : Word) (v : Byte) : (s.memWrite a v).bus = s.bus := rfl
@[simp] theorem State.memWrite_ef1 (a : Word) (v : Byte) : (s.memWrite a v).ef1 = s.ef1 := rfl
@[simp] theorem State.memWrite_ef2 (a : Word) (v : Byte) : (s.memWrite a v).ef2 = s.ef2 := rfl
@[simp] theorem State.memWrite_ef3 (a : Word) (v : Byte) : (s.memWrite a v).ef3 = s.ef3 := rfl
@[simp] theorem State.memWrite_ef4 (a : Word) (v : Byte) : (s.memWrite a v).ef4 = s.ef4 := rfl
@[simp] theorem State.memWrite_n0 (a : Word) (v : Byte) : (s.memWrite a v).n0 = s.n0 := rfl
@[simp] theorem State.memWrite_n1 (a : Word) (v : Byte) : (s.memWrite a v).n1 = s.n1 := rfl
@[simp] theorem State.memWrite_n2 (a : Word) (v : Byte) : (s.memWrite a v).n2 = s.n2 := rfl
@[simp] theorem State.memWrite_mem (a : Word) (v : Byte) : (s.memWrite a v).mem = Memory.write s.mem a.toNat v := rfl
@[simp] theorem State.memWrite_cs (a : Word) (v : Byte) : (s.memWrite a v).cs = s.cs := rfl
@[simp] theorem State.memWrite_branchIoExt (a : Word) (v : Byte) : (s.memWrite a v).branchIoExt = s.branchIoExt := rfl
@[simp] theorem State.memWrite_report (a : Word) (v : Byte) : (s.memWrite a v).report = s.report := rfl
@[simp] theorem State.memWrite_fault (a : Word) (v : Byte) : (s.memWrite a v).fault = s.fault := rfl
@[simp] theorem State.memWrite_started (a : Word) (v : Byte) : (s.memWrite a v).started = s.started := rfl
@[simp] theorem State.memWrite_pending (a : Word) (v : Byte) : (s.memWrite a v).pending = s.pending := rfl
@[simp] theorem State.memWrite_reg (a : Word) (v : Byte) (j : Nibble) : (s.memWrite a v).reg j = s.reg j := rfl

@[simp] theorem State.setReg_d (k : Nibble) (v : Word) : (s.setReg k v).d = s.d := rfl
@[simp] theorem State.setReg_df (k : Nibble) (v : Word) : (s.setReg k v).df = s.df := rfl
@[simp] theorem State.setReg_b (k : Nibble) (v : Word) : (s.setReg k v).b = s.b := rfl
@[simp] theorem State.setReg_r (k : Nibble) (v : Word) : (s.setReg k v).r = s.r.set k.toNat v k.isLt := rfl
@[simp] theorem State.setReg_p (k : Nibble) (v : Word) : (s.setReg k v).p = s.p := rfl
@[simp] theorem State.setReg_x (k : Nibble) (v : Word) : (s.setReg k v).x = s.x := rfl
@[simp] theorem State.setReg_i (k : Nibble) (v : Word) : (s.setReg k v).i = s.i := rfl
@[simp] theorem State.setReg_n (k : Nibble) (v : Word) : (s.setReg k v).n = s.n := rfl
@[simp] theorem State.setReg_t (k : Nibble) (v : Word) : (s.setReg k v).t = s.t := rfl
@[simp] theorem State.setReg_ie (k : Nibble) (v : Word) : (s.setReg k v).ie = s.ie := rfl
@[simp] theorem State.setReg_q (k : Nibble) (v : Word) : (s.setReg k v).q = s.q := rfl
@[simp] theorem State.setReg_bus (k : Nibble) (v : Word) : (s.setReg k v).bus = s.bus := rfl
@[simp] theorem State.setReg_ef1 (k : Nibble) (v : Word) : (s.setReg k v).ef1 = s.ef1 := rfl
@[simp] theorem State.setReg_ef2 (k : Nibble) (v : Word) : (s.setReg k v).ef2 = s.ef2 := rfl
@[simp] theorem State.setReg_ef3 (k : Nibble) (v : Word) : (s.setReg k v).ef3 = s.ef3 := rfl
@[simp] theorem State.setReg_ef4 (k : Nibble) (v : Word) : (s.setReg k v).ef4 = s.ef4 := rfl
@[simp] theorem State.setReg_n0 (k : Nibble) (v : Word) : (s.setReg k v).n0 = s.n0 := rfl
@[simp] theorem State.setReg_n1 (k : Nibble) (v : Word) : (s.setReg k v).n1 = s.n1 := rfl
@[simp] theorem State.setReg_n2 (k : Nibble) (v : Word) : (s.setReg k v).n2 = s.n2 := rfl
@[simp] theorem State.setReg_mem (k : Nibble) (v : Word) : (s.setReg k v).mem = s.mem := rfl
@[simp] theorem State.setReg_cs (k : Nibble) (v : Word) : (s.setReg k v).cs = s.cs := rfl
@[simp] theorem State.setReg_branchIoExt (k : Nibble) (v : Word) : (s.setReg k v).branchIoExt = s.branchIoExt := rfl
@[simp] theorem State.setReg_report (k : Nibble) (v : Word) : (s.setReg k v).report = s.report := rfl
@[simp] theorem State.setReg_fault (k : Nibble) (v : Word) : (s.setReg k v).fault = s.fault := rfl
@[simp] theorem State.setReg_started (k : Nibble) (v : Word) : (s.setReg k v).started = s.started := rfl
@[simp] theorem State.setReg_pending (k : Nibble) (v : Word) : (s.setReg k v).pending = s.pending := rfl
@[simp] theorem State.setReg_memRead (k : Nibble) (v : Word) (a' : Word) : (s.setReg k v).memRead a' = s.memRead a' := rfl

@[simp] theorem State.setD_d (v : Byte) : (s.setD v).d = v := rfl
@[simp] theorem State.setD_df (v : Byte) : (s.setD v).df = s.df := rfl
@[simp] theorem State.setD_b (v : Byte) : (s.setD v).b = s.b := rfl
@[simp] theorem State.setD_r (v : Byte) : (s.setD v).r = s.r := rfl
@[simp] theorem State.setD_p (v : Byte) : (s.setD v).p = s.p := rfl
@[simp] theorem State.setD_x (v : Byte) : (s.setD v).x = s.x := rfl
@[simp] theorem State.setD_i (v : Byte) : (s.setD v).i = s.i := rfl
@[simp] theorem State.setD_n (v : Byte) : (s.setD v).n = s.n := rfl
@[simp] theorem State.setD_t (v : Byte) : (s.setD v).t = s.t := rfl
@[simp] theorem State.setD_ie (v : Byte) : (s.setD v).ie = s.ie := rfl
@[simp] theorem State.setD_q (v : Byte) : (s.setD v).q = s.q := rfl
@[simp] theorem State.setD_bus (v : Byte) : (s.setD v).bus = s.bus := rfl
@[simp] theorem State.setD_ef1 (v : Byte) : (s.setD v).ef1 = s.ef1 := rfl
@[simp] theorem State.setD_ef2 (v : Byte) : (s.setD v).ef2 = s.ef2 := rfl
@[simp] theorem State.setD_ef3 (v : Byte) : (s.setD v).ef3 = s.ef3 := rfl
@[simp] theorem State.setD_ef4 (v : Byte) : (s.setD v).ef4 = s.ef4 := rfl
@[simp] theorem State.setD_n0 (v : Byte) : (s.setD v).n0 = s.n0 := rfl
@[simp] theorem State.setD_n1 (v : Byte) : (s.setD v).n1 = s.n1 := rfl
@[simp] theorem State.setD_n2 (v : Byte) : (s.setD v).n2 = s.n2 := rfl
@[simp] theorem State.setD_mem (v : Byte) : (s.setD v).mem = s.mem := rfl
@[simp] theorem State.setD_cs (v : Byte) : (s.setD v).cs = s.cs := rfl
@[simp] theorem State.setD_branchIoExt (v : Byte) : (s.setD v).branchIoExt = s.branchIoExt := rfl
@[simp] theorem State.setD_report (v : Byte) : (s.setD v).report = s.report := rfl
@[simp] theorem State.setD_fault (v : Byte) : (s.setD v).fault = s.fault := rfl
@[simp] theorem State.setD_started (v : Byte) : (s.setD v).started = s.started := rfl
@[simp] theorem State.setD_pending (v : Byte) : (s.setD v).pending = s.pending := rfl
@[simp] theorem State.setD_reg (v : Byte) (j : Nibble) : (s.setD v).reg j = s.reg j := rfl
@[simp] theorem State.setD_memRead (v : Byte) (a' : Word) : (s.setD v).memRead a' = s.memRead a' := rfl

@[simp] theorem State.setDf_d (c : Bool) : (s.setDf c).d = s.d := rfl
@[simp] theorem State.setDf_df (c : Bool) : (s.setDf c).df = c := rfl
@[simp] theorem State.setDf_b (c : Bool) : (s.setDf c).b = s.b := rfl
@[simp] theorem State.setDf_r (c : Bool) : (s.setDf c).r = s.r := rfl
@[simp] theorem State.setDf_p (c : Bool) : (s.setDf c).p = s.p := rfl
@[simp] theorem State.setDf_x (c : Bool) : (s.setDf c).x = s.x := rfl
@[simp] theorem State.setDf_i (c : Bool) : (s.setDf c).i = s.i := rfl
@[simp] theorem State.setDf_n (c : Bool) : (s.setDf c).n = s.n := rfl
@[simp] theorem State.setDf_t (c : Bool) : (s.setDf c).t = s.t := rfl
@[simp] theorem State.setDf_ie (c : Bool) : (s.setDf c).ie = s.ie := rfl
@[simp] theorem State.setDf_q (c : Bool) : (s.setDf c).q = s.q := rfl
@[simp] theorem State.setDf_bus (c : Bool) : (s.setDf c).bus = s.bus := rfl
@[simp] theorem State.setDf_ef1 (c : Bool) : (s.setDf c).ef1 = s.ef1 := rfl
@[simp] theorem State.setDf_ef2 (c : Bool) : (s.setDf c).ef2 = s.ef2 := rfl
@[simp] theorem State.setDf_ef3 (c : Bool) : (s.setDf c).ef3 = s.ef3 := rfl
@[simp] theorem State.setDf_ef4 (c : Bool) : (s.setDf c).ef4 = s.ef4 := rfl
@[simp] theorem State.setDf_n0 (c : Bool) : (s.setDf c).n0 = s.n0 := rfl
@[simp] theorem State.setDf_n1 (c : Bool) : (s.setDf c).n1 = s.n1 := rfl
@[simp] theorem State.setDf_n2 (c : Bool) : (s.setDf c).n2 = s.n2 := rfl
@[simp] theorem State.setDf_mem (c : Bool) : (s.setDf c).mem = s.mem := rfl
@[simp] theorem State.setDf_cs (c : Bool) : (s.setDf c).cs = s.cs := rfl
@[simp] theorem State.setDf_branchIoExt (c : Bool) : (s.setDf c).branchIoExt = s.branchIoExt := rfl
@[simp] theorem State.setDf_report (c : Bool) : (s.setDf c).report = s.report := rfl
@[simp] theorem State.setDf_fault (c : Bool) : (s.setDf c).fault = s.fault := rfl
@[simp] theorem State.setDf_started (c : Bool) : (s.setDf c).started = s.started := rfl
@[simp] theorem State.setDf_pending (c : Bool) : (s.setDf c).pending = s.pending := rfl
@[simp] theorem State.setDf_reg (c : Bool) (j : Nibble) : (s.setDf c).reg j = s.reg j := rfl
@[simp] theorem State.setDf_memRead (c : Bool) (a' : Word) : (s.setDf c).memRead a' = s.memRead a' := rfl

@[simp] theorem State.setP_d (k : Nibble) : (s.setP k).d = s.d := rfl
@[simp] theorem State.setP_df (k : Nibble) : (s.setP k).df = s.df := rfl
@[simp] theorem State.setP_b (k : Nibble) : (s.setP k).b = s.b := rfl
@[simp] theorem State.setP_r (k : Nibble) : (s.setP k).r = s.r := rfl
@[simp] theorem State.setP_p (k : Nibble) : (s.setP k).p = k := rfl
@[simp] theorem State.setP_x (k : Nibble) : (s.setP k).x = s.x := rfl
@[simp] theorem State.setP_i (k : Nibble) : (s.setP k).i = s.i := rfl
@[simp] theorem State.setP_n (k : Nibble) : (s.setP k).n = s.n := rfl
@[simp] theorem State.setP_t (k : Nibble) : (s.setP k).t = s.t := rfl
@[simp] theorem State.setP_ie (k : Nibble) : (s.setP k).ie = s.ie := rfl
@[simp] theorem State.setP_q (k : Nibble) : (s.setP k).q = s.q := rfl
@[simp] theorem State.setP_bus (k : Nibble) : (s.setP k).bus = s.bus := rfl
@[simp] theorem State.setP_ef1 (k : Nibble) : (s.setP k).ef1 = s.ef1 := rfl
@[simp] theorem State.setP_ef2 (k : Nibble) : (s.setP k).ef2 = s.ef2 := rfl
@[simp] theorem State.setP_ef3 (k : Nibble) : (s.setP k).ef3 = s.ef3 := rfl
@[simp] theorem State.setP_ef4 (k : Nibble) : (s.setP k).ef4 = s.ef4 := rfl
@[simp] theorem State.setP_n0 (k : Nibble) : (s.setP k).n0 = s.n0 := rfl
@[simp] theorem State.setP_n1 (k : Nibble) : (s.setP k).n1 = s.n1 := rfl
@[simp] theorem State.setP_n2 (k : Nibble) : (s.setP k).n2 = s.n2 := rfl
@[simp] theorem State.setP_mem (k : Nibble) : (s.setP k).mem = s.mem := rfl
@[simp] theorem State.setP_cs (k : Nibble) : (s.setP k).cs = s.cs := rfl
@[simp] theorem State.setP_branchIoExt (k : Nibble) : (s.setP k).branchIoExt = s.branchIoExt := rfl
@[simp] theorem State.setP_report (k : Nibble) : (s.setP k).report = s.report := rfl
@[simp] theorem State.setP_fault (k : Nibble) : (s.setP k).fault = s.fault := rfl
@[simp] theorem State.setP_started (k : Nibble) : (s.setP k).started = s.started := rfl
@[simp] theorem State.setP_pending (k : Nibble) : (s.setP k).pending = s.pending := rfl
@[simp] theorem State.setP_reg (k : Nibble) (j : Nibble) : (s.setP k).reg j = s.reg j := rfl
@[simp] theorem State.setP_memRead (k : Nibble) (a' : Word) : (s.setP k).memRead a' = s.memRead a' := rfl

@[simp] theorem State.setX_d (k : Nibble) : (s.setX k).d = s.d := rfl
@[simp] theorem State.setX_df (k : Nibble) : (s.setX k).df = s.df := rfl
@[simp] theorem State.setX_b (k : Nibble) : (s.setX k).b = s.b := rfl
@[simp] theorem State.setX_r (k : Nibble) : (s.setX k).r = s.r := rfl
@[simp] theorem State.setX_p (k : Nibble) : (s.setX k).p = s.p := rfl
@[simp] theorem State.setX_x (k : Nibble) : (s.setX k).x = k := rfl
@[simp] theorem State.setX_i (k : Nibble) : (s.setX k).i = s.i := rfl
@[simp] theorem State.setX_n (k : Nibble) : (s.setX k).n = s.n := rfl
@[simp] theorem State.setX_t (k : Nibble) : (s.setX k).t = s.t := rfl
@[simp] theorem State.setX_ie (k : Nibble) : (s.setX k).ie = s.ie := rfl
@[simp] theorem State.setX_q (k : Nibble) : (s.setX k).q = s.q := rfl
@[simp] theorem State.setX_bus (k : Nibble) : (s.setX k).bus = s.bus := rfl
@[simp] theorem State.setX_ef1 (k : Nibble) : (s.setX k).ef1 = s.ef1 := rfl
@[simp] theorem State.setX_ef2 (k : Nibble) : (s.setX k).ef2 = s.ef2 := rfl
@[simp] theorem State.setX_ef3 (k : Nibble) : (s.setX k).ef3 = s.ef3 := rfl
@[simp] theorem State.setX_ef4 (k : Nibble) : (s.setX k).ef4 = s.ef4 := rfl
@[simp] theorem State.setX_n0 (k : Nibble) : (s.setX k).n0 = s.n0 := rfl
@[simp] theorem State.setX_n1 (k : Nibble) : (s.setX k).n1 = s.n1 := rfl
@[simp] theorem State.setX_n2 (k : Nibble) : (s.setX k).n2 = s.n2 := rfl
@[simp] theorem State.setX_mem (k : Nibble) : (s.setX k).mem = s.mem := rfl
@[simp] theorem State.setX_cs (k : Nibble) : (s.setX k).cs = s.cs := rfl
@[simp] theorem State.setX_branchIoExt (k : Nibble) : (s.setX k).branchIoExt = s.branchIoExt := rfl
@[simp] theorem State.setX_report (k : Nibble) : (s.setX k).report = s.report := rfl
@[simp] theorem State.setX_fault (k : Nibble) : (s.setX k).fault = s.fault := rfl
@[simp] theorem State.setX_started (k : Nibble) : (s.setX k).started = s.started := rfl
@[simp] theorem State.setX_pending (k : Nibble) : (s.setX k).pending = s.pending := rfl
@[simp] theorem State.setX_reg (k : Nibble) (j : Nibble) : (s.setX k).reg j = s.reg j := rfl
@[simp] theorem State.setX_memRead (k : Nibble) (a' : Word) : (s.setX k).memRead a' = s.memRead a' := rfl

@[simp] theorem State.latch_d (i n : Nibble) : (s.latch i n).d = s.d := rfl
@[simp] theorem State.latch_df (i n : Nibble) : (s.latch i n).df = s.df := rfl
@[simp] theorem State.latch_b (i n : Nibble) : (s.latch i n).b = s.b := rfl
@[simp] theorem State.latch_r (i n : Nibble) : (s.latch i n).r = s.r := rfl
@[simp] theorem State.latch_p (i n : Nibble) : (s.latch i n).p = s.p := rfl
@[simp] theorem State.latch_x (i n : Nibble) : (s.latch i n).x = s.x := rfl
@[simp] theorem State.latch_i (i n : Nibble) : (s.latch i n).i = i := rfl
@[simp] theorem State.latch_n (i n : Nibble) : (s.latch i n).n = n := rfl
@[simp] theorem State.latch_t (i n : Nibble) : (s.latch i n).t = s.t := rfl
@[simp] theorem State.latch_ie (i n : Nibble) : (s.latch i n).ie = s.ie := rfl
@[simp] theorem State.latch_q (i n : Nibble) : (s.latch i n).q = s.q := rfl
@[simp] theorem State.latch_bus (i n : Nibble) : (s.latch i n).bus = s.bus := rfl
@[simp] theorem State.latch_ef1 (i n : Nibble) : (s.latch i n).ef1 = s.ef1 := rfl
@[simp] theorem State.latch_ef2 (i n : Nibble) : (s.latch i n).ef2 = s.ef2 := rfl
@[simp] theorem State.latch_ef3 (i n : Nibble) : (s.latch i n).ef3 = s.ef3 := rfl
@[simp] theorem State.latch_ef4 (i n : Nibble) : (s.latch i n).ef4 = s.ef4 := rfl
@[simp] theorem State.latch_n0 (i n : Nibble) : (s.latch i n).n0 = s.n0 := rfl
@[simp] theorem State.latch_n1 (i n : Nibble) : (s.latch i n).n1 = s.n1 := rfl
@[simp] theorem State.latch_n2 (i n : Nibble) : (s.latch i n).n2 = s.n2 := rfl
@[simp] theorem State.latch_mem (i n : Nibble) : (s.latch i n).mem = s.mem := rfl
@[simp] theorem State.latch_cs (i n : Nibble) : (s.latch i n).cs = s.cs := rfl
@[simp] theorem State.latch_branchIoExt (i n : Nibble) : (s.latch i n).branchIoExt = s.branchIoExt := rfl
@[simp] theorem State.latch_report (i n : Nibble) : (s.latch i n).report = s.report := rfl
@[simp] theorem State.latch_fault (i n : Nibble) : (s.latch i n).fault = s.fault := rfl
@[simp] theorem State.latch_started (i n : Nibble) : (s.latch i n).started = s.started := rfl
@[simp] theorem State.latch_pending (i n : Nibble) : (s.latch i n).pending = s.pending := rfl
@[simp] theorem State.latch_reg (i n : Nibble) (j : Nibble) : (s.latch i n).reg j = s.reg j := rfl
@[simp] theorem State.latch_memRead (i n : Nibble) (a' : Word) : (s.latch i n).memRead a' = s.memRead a' := rfl

@[simp] theorem State.setIe_d (c : Bool) : (s.setIe c).d = s.d := rfl
@[simp] theorem State.setIe_df (c : Bool) : (s.setIe c).df = s.df := rfl
@[simp] theorem State.setIe_b (c : Bool) : (s.setIe c).b = s.b := rfl
@[simp] theorem State.setIe_r (c : Bool) : (s.setIe c).r = s.r := rfl
@[simp] theorem State.setIe_p (c : Bool) : (s.setIe c).p = s.p := rfl
@[simp] theorem State.setIe_x (c : Bool) : (s.setIe c).x = s.x := rfl
@[simp] theorem State.setIe_i (c : Bool) : (s.setIe c).i = s.i := rfl
@[simp] theorem State.setIe_n (c : Bool) : (s.setIe c).n = s.n := rfl
@[simp] theorem State.setIe_t (c : Bool) : (s.setIe c).t = s.t := rfl
@[simp] theorem State.setIe_ie (c : Bool) : (s.setIe c).ie = c := rfl
@[simp] theorem State.setIe_q (c : Bool) : (s.setIe c).q = s.q := rfl
@[simp] theorem State.setIe_bus (c : Bool) : (s.setIe c).bus = s.bus := rfl
@[simp] theorem State.setIe_ef1 (c : Bool) : (s.setIe c).ef1 = s.ef1 := rfl
@[simp] theorem State.setIe_ef2 (c : Bool) : (s.setIe c).ef2 = s.ef2 := rfl
@[simp] theorem State.setIe_ef3 (c : Bool) : (s.setIe c).ef3 = s.ef3 := rfl
@[simp] theorem State.setIe_ef4 (c : Bool) : (s.setIe c).ef4 = s.ef4 := rfl
@[simp] theorem State.setIe_n0 (c : Bool) : (s.setIe c).n0 = s.n0 := rfl
@[simp] theorem State.setIe_n1 (c : Bool) : (s.setIe c).n1 = s.n1 := rfl
@[simp] theorem State.setIe_n2 (c : Bool) : (s.setIe c).n2 = s.n2 := rfl
@[simp] theorem State.setIe_mem (c : Bool) : (s.setIe c).mem = s.mem := rfl
@[simp] theorem State.setIe_cs (c : Bool) : (s.setIe c).cs = s.cs := rfl
@[simp] theorem State.setIe_branchIoExt (c : Bool) : (s.setIe c).branchIoExt = s.branchIoExt := rfl
@[simp] theorem State.setIe_report (c : Bool) : (s.setIe c).report = s.report := rfl
@[simp] theorem State.setIe_fault (c : Bool) : (s.setIe c).fault = s.fault := rfl
@[simp] theorem State.setIe_started (c : Bool) : (s.setIe c).started = s.started := rfl
@[simp] theorem State.setIe_pending (c : Bool) : (s.setIe c).pending = s.pending := rfl
@[simp] theorem State.setIe_reg (c : Bool) (j : Nibble) : (s.setIe c).reg j = s.reg j := rfl
@[simp] theorem State.setIe_memRead (c : Bool) (a' : Word) : (s.setIe c).memRead a' = s.memRead a' := rfl

@[simp] theorem State.setQ_d (c : Bool) : (s.setQ c).d = s.d := rfl
@[simp] theorem State.setQ_df (c : Bool) : (s.setQ c).df = s.df := rfl
@[simp] theorem State.setQ_b (c : Bool) : (s.setQ c).b = s.b := rfl
@[simp] theorem State.setQ_r (c : Bool) : (s.setQ c).r = s.r := rfl
@[simp] theorem State.setQ_p (c : Bool) : (s.setQ c).p = s.p := rfl
@[simp] theorem State.setQ_x (c : Bool) : (s.setQ c).x = s.x := rfl
@[simp] theorem State.setQ_i (c : Bool) : (s.setQ c).i = s.i := rfl
@[simp] theorem State.setQ_n (c : Bool) : (s.setQ c).n = s.n := rfl
@[simp] theorem State.setQ_t (c : Bool) : (s.setQ c).t = s.t := rfl
@[simp] theorem State.setQ_ie (c : Bool) : (s.setQ c).ie = s.ie := rfl
@[simp] theorem State.setQ_q (c : Bool) : (s.setQ c).q = c := rfl
@[simp] theorem State.setQ_bus (c : Bool) : (s.setQ c).bus = s.bus := rfl
@[simp] theorem State.setQ_ef1 (c : Bool) : (s.setQ c).ef1 = s.ef1 := rfl
@[simp] theorem State.setQ_ef2 (c : Bool) : (s.setQ c).ef2 = s.ef2 := rfl
@[simp] theorem State.setQ_ef3 (c : Bool) : (s.setQ c).ef3 = s.ef3 := rfl
@[simp] theorem State.setQ_ef4 (c : Bool) : (s.setQ c).ef4 = s.ef4 := rfl
@[simp] theorem State.setQ_n0 (c : Bool) : (s.setQ c).n0 = s.n0 := rfl
@[simp] theorem State.setQ_n1 (c : Bool) : (s.setQ c).n1 = s.n1 := rfl
@[simp] theorem State.setQ_n2 (c : Bool) : (s.setQ c).n2 = s.n2 := rfl
@[simp] theorem State.setQ_mem (c : Bool) : (s.setQ c).mem = s.mem := rfl
@[simp] theorem State.setQ_cs (c : Bool) : (s.setQ c).cs = s.cs := rfl
@[simp] theorem State.setQ_branchIoExt (c : Bool) : (s.setQ c).branchIoExt = s.branchIoExt := rfl
@[simp] theorem State.setQ_report (c : Bool) : (s.setQ c).report = s.report := rfl
@[simp] theorem State.setQ_fault (c : Bool) : (s.setQ c).fault = s.fault := rfl
@[simp] theorem State.setQ_started (c : Bool) : (s.setQ c).started = s.started := rfl
@[simp] theorem State.setQ_pending (c : Bool) : (s.setQ c).pending = s.pending := rfl
@[simp] theorem State.setQ_reg (c : Bool) (j : Nibble) : (s.setQ c).reg j = s.reg j := rfl
@[simp] theorem State.setQ_memRead (c : Bool) (a' : Word) : (s.setQ c).memRead a' = s.memRead a' := rfl

@[simp] theorem State.setBus_d (v : Byte) : (s.setBus v).d = s.d := rfl
@[simp] theorem State.setBus_df (v : Byte) : (s.setBus v).df = s.df := rfl
@[simp] theorem State.setBus_b (v : Byte) : (s.setBus v).b = s.b := rfl
@[simp] theorem State.setBus_r (v : Byte) : (s.setBus v).r = s.r := rfl
@[simp] theorem State.setBus_p (v : Byte) : (s.setBus v).p = s.p := rfl
@[simp] theorem State.setBus_x (v : Byte) : (s.setBus v).x = s.x := rfl
@[simp] theorem State.setBus_i (v : Byte) : (s.setBus v).i = s.i := rfl
@[simp] theorem State.setBus_n (v : Byte) : (s.setBus v).n = s.n := rfl
@[simp] theorem State.setBus_t (v : Byte) : (s.setBus v).t = s.t := rfl
@[simp] theorem State.setBus_ie (v : Byte) : (s.setBus v).ie = s.ie := rfl
@[simp] theorem State.setBus_q (v : Byte) : (s.setBus v).q = s.q := rfl
@[simp] theorem State.setBus_bus (v : Byte) : (s.setBus v).bus = v := rfl
@[simp] theorem State.setBus_ef1 (v : Byte) : (s.setBus v).ef1 = s.ef1 := rfl
@[simp] theorem State.setBus_ef2 (v : Byte) : (s.setBus v).ef2 = s.ef2 := rfl
@[simp] theorem State.setBus_ef3 (v : Byte) : (s.setBus v).ef3 = s.ef3 := rfl
@[simp] theorem State.setBus_ef4 (v : Byte) : (s.setBus v).ef4 = s.ef4 := rfl
@[simp] theorem State.setBus_n0 (v : Byte) : (s.setBus v).n0 = s.n0 := rfl
@[simp] theorem State.setBus_n1 (v : Byte) : (s.setBus v).n1 = s.n1 := rfl
@[simp] theorem State.setBus_n2 (v : Byte) : (s.setBus v).n2 = s.n2 := rfl
@[simp] theorem State.setBus_mem (v : Byte) : (s.setBus v).mem = s.mem := rfl
@[simp] theorem State.setBus_cs (v : Byte) : (s.setBus v).cs = s.cs := rfl
@[simp] theorem State.setBus_branchIoExt (v : Byte) : (s.setBus v).branchIoExt = s.branchIoExt := rfl
@[simp] theorem State.setBus_report (v : Byte) : (s.setBus v).report = s.report := rfl
@[simp] theorem State.setBus_fault (v : Byte) : (s.setBus v).fault = s.fault := rfl
@[simp] theorem State.setBus_started (v : Byte) : (s.setBus v).started = s.started := rfl
@[simp] theorem State.setBus_pending (v : Byte) : (s.setBus v).pending = s.pending := rfl
@[simp] theorem State.setBus_reg (v : Byte) (j : Nibble) : (s.setBus v).reg j = s.reg j := rfl
@[simp] theorem State.setBus_memRead (v : Byte) (a' : Word) : (s.setBus v).memRead a' = s.memRead a' := rfl

@[simp] theorem State.selectDevice_d (dev : BitVec 3) : (s.selectDevice dev).d = s.d := rfl
@[simp] theorem State.selectDevice_df (dev : BitVec 3) : (s.selectDevice dev).df = s.df := rfl
@[simp] theorem State.selectDevice_b (dev : BitVec 3) : (s.selectDevice dev).b = s.b := rfl
@[simp] theorem State.selectDevice_r (dev : BitVec 3) : (s.selectDevice dev).r = s.r := rfl
@[simp] theorem State.selectDevice_p (dev : BitVec 3) : (s.selectDevice dev).p = s.p := rfl
@[simp] theorem State.selectDevice_x (dev : BitVec 3) : (s.selectDevice dev).x = s.x := rfl
@[simp] theorem State.selectDevice_i (dev : BitVec 3) : (s.selectDevice dev).i = s.i := rfl
@[simp] theorem State.selectDevice_n (dev : BitVec 3) : (s.selectDevice dev).n = s.n := rfl
@[simp] theorem State.selectDevice_t (dev : BitVec 3) : (s.selectDevice dev).t = s.t := rfl
@[simp] theorem State.selectDevice_ie (dev : BitVec 3) : (s.selectDevice dev).ie = s.ie := rfl
@[simp] theorem State.selectDevice_q (dev : BitVec 3) : (s.selectDevice dev).q = s.q := rfl
@[simp] theorem State.selectDevice_bus (dev : BitVec 3) : (s.selectDevice dev).bus = s.bus := rfl
@[simp] theorem State.selectDevice_ef1 (dev : BitVec 3) : (s.selectDevice dev).ef1 = s.ef1 := rfl
@[simp] theorem State.selectDevice_ef2 (dev : BitVec 3) : (s.selectDevice dev).ef2 = s.ef2 := rfl
@[simp] theorem State.selectDevice_ef3 (dev : BitVec 3) : (s.selectDevice dev).ef3 = s.ef3 := rfl
@[simp] theorem State.selectDevice_ef4 (dev : BitVec 3) : (s.selectDevice dev).ef4 = s.ef4 := rfl
@[simp] theorem State.selectDevice_n0 (dev : BitVec 3) : (s.selectDevice dev).n0 = dev.getLsbD 0 := rfl
@[simp] theorem State.selectDevice_n1 (dev : BitVec 3) : (s.selectDevice dev).n1 = dev.getLsbD 1 := rfl
@[simp] theorem State.selectDevice_n2 (dev : BitVec 3) : (s.selectDevice dev).n2 = dev.getLsbD 2 := rfl
@[simp] theorem State.selectDevice_mem (dev : BitVec 3) : (s.selectDevice dev).mem = s.mem := rfl
@[simp] theorem State.selectDevice_cs (dev : BitVec 3) : (s.selectDevice dev).cs = s.cs := rfl
@[simp] theorem State.selectDevice_branchIoExt (dev : BitVec 3) : (s.selectDevice dev).branchIoExt = s.branchIoExt := rfl
@[simp] theorem State.selectDevice_report (dev : BitVec 3) : (s.selectDevice dev).report = s.report := rfl
@[simp] theorem State.selectDevice_fault (dev : BitVec 3) : (s.selectDevice dev).fault = s.fault := rfl
@[simp] theorem State.selectDevice_started (dev : BitVec 3) : (s.selectDevice dev).started = s.started := rfl
@[simp] theorem State.selectDevice_pending (dev : BitVec 3) : (s.selectDevice dev).pending = s.pending := rfl
@[simp] theorem State.selectDevice_reg (dev : BitVec 3) (j : Nibble) : (s.selectDevice dev).reg j = s.reg j := rfl
@[simp] theorem State.selectDevice_memRead (dev : BitVec 3) (a' : Word) : (s.selectDevice dev).memRead a' = s.memRead a' := rfl

@[simp] theorem State.clearLines_d : (s.clearLines).d = s.d := rfl
@[simp] theorem State.clearLines_df : (s.clearLines).df = s.df := rfl
@[simp] theorem State.clearLines_b : (s.clearLines).b = s.b := rfl
@[simp] theorem State.clearLines_r : (s.clearLines).r = s.r := rfl
@[simp] theorem State.clearLines_p : (s.clearLines).p = s.p := rfl
@[simp] theorem State.clearLines_x : (s.clearLines).x = s.x := rfl
@[simp] theorem State.clearLines_i : (s.clearLines).i = s.i := rfl
@[simp] theorem State.clearLines_n : (s.clearLines).n = s.n := rfl
@[simp] theorem State.clearLines_t : (s.clearLines).t = s.t := rfl
@[simp] theorem State.clearLines_ie : (s.clearLines).ie = s.ie := rfl
@[simp] theorem State.clearLines_q : (s.clearLines).q = s.q := rfl
@[simp] theorem State.clearLines_bus : (s.clearLines).bus = s.bus := rfl
@[simp] theorem State.clearLines_ef1 : (s.clearLines).ef1 = s.ef1 := rfl
@[simp] theorem State.clearLines_ef2 : (s.clearLines).ef2 = s.ef2 := rfl
@[simp] theorem State.clearLines_ef3 : (s.clearLines).ef3 = s.ef3 := rfl
@[simp] theorem State.clearLines_ef4 : (s.clearLines).ef4 = s.ef4 := rfl
@[simp] theorem State.clearLines_n0 : (s.clearLines).n0 = false := rfl
@[simp] theorem State.clearLines_n1 : (s.clearLines).n1 = false := rfl
@[simp] theorem State.clearLines_n2 : (s.clearLines).n2 = false := rfl
@[simp] theorem State.clearLines_mem : (s.clearLines).mem = s.mem := rfl
@[simp] theorem State.clearLines_cs : (s.clearLines).cs = s.cs := rfl
@[simp] theorem State.clearLines_branchIoExt : (s.clearLines).branchIoExt = s.branchIoExt := rfl
@[simp] theorem State.clearLines_report : (s.clearLines).report = s.report := rfl
@[simp] theorem State.clearLines_fault : (s.clearLines).fault = s.fault := rfl
@[simp] theorem State.clearLines_started : (s.clearLines).started = s.started := rfl
@[simp] theorem State.clearLines_pending : (s.clearLines).pending = s.pending := rfl
@[simp] theorem State.clearLines_reg (j : Nibble) : (s.clearLines).reg j = s.reg j := rfl
@[simp] theorem State.clearLines_memRead (a' : Word) : (s.clearLines).memRead a' = s.memRead a' := rfl

@[simp] theorem State.goto_d (ph : Phase) : (s.goto ph).d = s.d := rfl
@[simp] theorem State.goto_df (ph : Phase) : (s.goto ph).df = s.df := rfl
@[simp] theorem State.goto_b (ph : Phase) : (s.goto ph).b = s.b := rfl
@[simp] theorem State.goto_r (ph : Phase) : (s.goto ph).r = s.r := rfl
@[simp] theorem State.goto_p (ph : Phase) : (s.goto ph).p = s.p := rfl
@[simp] theorem State.goto_x (ph : Phase) : (s.goto ph).x = s.x := rfl
@[simp] theorem State.goto_i (ph : Phase) : (s.goto ph).i = s.i := rfl
@[simp] theorem State.goto_n (ph : Phase) : (s.goto ph).n = s.n := rfl
@[simp] theorem State.goto_t (ph : Phase) : (s.goto ph).t = s.t := rfl
@[simp] theorem State.goto_ie (ph : Phase) : (s.goto ph).ie = s.ie := rfl
@[simp] theorem State.goto_q (ph : Phase) : (s.goto ph).q = s.q := rfl
@[simp] theorem State.goto_bus (ph : Phase) : (s.goto ph).bus = s.bus := rfl
@[simp] theorem State.goto_ef1 (ph : Phase) : (s.goto ph).ef1 = s.ef1 := rfl
@[simp] theorem State.goto_ef2 (ph : Phase) : (s.goto ph).ef2 = s.ef2 := rfl
@[simp] theorem State.goto_ef3 (ph : Phase) : (s.goto ph).ef3 = s.ef3 := rfl
@[simp] theorem State.goto_ef4 (ph : Phase) : (s.goto ph).ef4 = s.ef4 := rfl
@[simp] theorem State.goto_n0 (ph : Phase) : (s.goto ph).n0 = s.n0 := rfl
@[simp] theorem State.goto_n1 (ph : Phase) : (s.goto ph).n1 = s.n1 := rfl
@[simp] theorem State.goto_n2 (ph : Phase) : (s.goto ph).n2 = s.n2 := rfl
@[simp] theorem State.goto_mem (ph : Phase) : (s.goto ph).mem = s.mem := rfl
@[simp] theorem State.goto_cs (ph : Phase) : (s.goto ph).cs = .phase ph := rfl
@[simp] theorem State.goto_branchIoExt (ph : Phase) : (s.goto ph).branchIoExt = s.branchIoExt := rfl
@[simp] theorem State.goto_report (ph : Phase) : (s.goto ph).report = s.report := rfl
@[simp] theorem State.goto_fault (ph : Phase) : (s.goto ph).fault = s.fault := rfl
@[simp] theorem State.goto_started (ph : Phase) : (s.goto ph).started = s.started := rfl
@[simp] theorem State.goto_pending (ph : Phase) : (s.goto ph).pending = s.pending := rfl
@[simp] theorem State.goto_reg (ph : Phase) (j : Nibble) : (s.goto ph).reg j = s.reg j := rfl
@[simp] theorem State.goto_memRead (ph : Phase) (a' : Word) : (s.goto ph).memRead a' = s.memRead a' := rfl

@[simp] theorem State.freeze_d (prev : Phase) : (s.freeze prev).d = s.d := rfl
@[simp] theorem State.freeze_df (prev : Phase) : (s.freeze prev).df = s.df := rfl
@[simp] theorem State.freeze_b (prev : Phase) : (s.freeze prev).b = s.b := rfl
@[simp] theorem State.freeze_r (prev : Phase) : (s.freeze prev).r = s.r := rfl
@[simp] theorem State.freeze_p (prev : Phase) : (s.freeze prev).p = s.p := rfl
@[simp] theorem State.freeze_x (prev : Phase) : (s.freeze prev).x = s.x := rfl
@[simp] theorem State.freeze_i (prev : Phase) : (s.freeze prev).i = s.i := rfl
@[simp] theorem State.freeze_n (prev : Phase) : (s.freeze prev).n = s.n := rfl
@[simp] theorem State.freeze_t (prev : Phase) : (s.freeze prev).t = s.t := rfl
@[simp] theorem State.freeze_ie (prev : Phase) : (s.freeze prev).ie = s.ie := rfl
@[simp] theorem State.freeze_q (prev : Phase) : (s.freeze prev).q = s.q := rfl
@[simp] theorem State.freeze_bus (prev : Phase) : (s.freeze prev).bus = s.bus := rfl
@[simp] theorem State.freeze_ef1 (prev : Phase) : (s.freeze prev).ef1 = s.ef1 := rfl
@[simp] theorem State.freeze_ef2 (prev : Phase) : (s.freeze prev).ef2 = s.ef2 := rfl
@[simp] theorem State.freeze_ef3 (prev : Phase) : (s.freeze prev).ef3 = s.ef3 := rfl
@[simp] theorem State.freeze_ef4 (prev : Phase) : (s.freeze prev).ef4 = s.ef4 := rfl
@[simp] theorem State.freeze_n0 (prev : Phase) : (s.freeze prev).n0 = s.n0 := rfl
@[simp] theorem State.freeze_n1 (prev : Phase) : (s.freeze prev).n1 = s.n1 := rfl
@[simp] theorem State.freeze_n2 (prev : Phase) : (s.freeze prev).n2 = s.n2 := rfl
@[simp] theorem State.freeze_mem (prev : Phase) : (s.freeze prev).mem = s.mem := rfl
@[simp] theorem State.freeze_cs (prev : Phase) : (s.freeze prev).cs = .pause prev := rfl
@[simp] theorem State.freeze_branchIoExt (prev : Phase) : (s.freeze prev).branchIoExt = s.branchIoExt := rfl
@[simp] theorem State.freeze_report (prev : Phase) : (s.freeze prev).report = s.report := rfl
@[simp] theorem State.freeze_fault (prev : Phase) : (s.freeze prev).fault = s.fault := rfl
@[simp] theorem State.freeze_started (prev : Phase) : (s.freeze prev).started = s.started := rfl
@[simp] theorem State.freeze_pending (prev : Phase) : (s.freeze prev).pending = s.pending := rfl
@[simp] theorem State.freeze_reg (prev : Phase) (j : Nibble) : (s.freeze prev).reg j = s.reg j := rfl
@[simp] theorem State.freeze_memRead (prev : Phase) (a' : Word) : (s.freeze prev).memRead a' = s.memRead a' := rfl

@[simp] theorem State.clearReport_d : (s.clearReport).d = s.d := rfl
@[simp] theorem State.clearReport_df : (s.clearReport).df = s.df := rfl
@[simp] theorem State.clearReport_b : (s.clearReport).b = s.b := rfl
@[simp] theorem State.clearReport_r : (s.clearReport).r = s.r := rfl
@[simp] theorem State.clearReport_p : (s.clearReport).p = s.p := rfl
@[simp] theorem State.clearReport_x : (s.clearReport).x = s.x := rfl
@[simp] theorem State.clearReport_i : (s.clearReport).i = s.i := rfl
@[simp] theorem State.clearReport_n : (s.clearReport).n = s.n := rfl
@[simp] theorem State.clearReport_t : (s.clearReport).t = s.t := rfl
@[simp] theorem State.clearReport_ie : (s.clearReport).ie = s.ie := rfl
@[simp] theorem State.clearReport_q : (s.clearReport).q = s.q := rfl
@[simp] theorem State.clearReport_bus : (s.clearReport).bus = s.bus := rfl
@[simp] theorem State.clearReport_ef1 : (s.clearReport).ef1 = s.ef1 := rfl
@[simp] theorem State.clearReport_ef2 : (s.clearReport).ef2 = s.ef2 := rfl
@[simp] theorem State.clearReport_ef3 : (s.clearReport).ef3 = s.ef3 := rfl
@[simp] theorem State.clearReport_ef4 : (s.clearReport).ef4 = s.ef4 := rfl
@[simp] theorem State.clearReport_n0 : (s.clearReport).n0 = s.n0 := rfl
@[simp] theorem State.clearReport_n1 : (s.clearReport).n1 = s.n1 := rfl
@[simp] theorem State.clearReport_n2 : (s.clearReport).n2 = s.n2 := rfl
@[simp] theorem State.clearReport_mem : (s.clearReport).mem = s.mem := rfl
@[simp] theorem State.clearReport_cs : (s.clearReport).cs = s.cs := rfl
@[simp] theorem State.clearReport_branchIoExt : (s.clearReport).branchIoExt = s.branchIoExt := rfl
@[simp] theorem State.clearReport_report : (s.clearReport).report = none := rfl
@[simp] theorem State.clearReport_fault : (s.clearReport).fault = s.fault := rfl
@[simp] theorem State.clearReport_started : (s.clearReport).started = s.started := rfl
@[simp] theorem State.clearReport_pending : (s.clearReport).pending = s.pending := rfl
@[simp] theorem State.clearReport_reg (j : Nibble) : (s.clearReport).reg j = s.reg j := rfl
@[simp] theorem State.clearReport_memRead (a' : Word) : (s.clearReport).memRead a' = s.memRead a' := rfl

@[simp] theorem State.markStarted_d : (s.markStarted).d = s.d := rfl
@[simp] theorem State.markStarted_df : (s.markStarted).df = s.df := rfl
@[simp] theorem State.markStarted_b : (s.markStarted).b = s.b := rfl
@[simp] theorem State.markStarted_r : (s.markStarted).r = s.r := rfl
@[simp] theorem State.markStarted_p : (s.markStarted).p = s.p := rfl
@[simp] theorem State.markStarted_x : (s.markStarted).x = s.x := rfl
@[simp] theorem State.markStarted_i : (s.markStarted).i = s.i := rfl
@[simp] theorem State.markStarted_n : (s.markStarted).n = s.n := rfl
@[simp] theorem State.markStarted_t : (s.markStarted).t = s.t := rfl
@[simp] theorem State.markStarted_ie : (s.markStarted).ie = s.ie := rfl
@[simp] theorem State.markStarted_q : (s.markStarted).q = s.q := rfl
@[simp] theorem State.markStarted_bus : (s.markStarted).bus = s.bus := rfl
@[simp] theorem State.markStarted_ef1 : (s.markStarted).ef1 = s.ef1 := rfl
@[simp] theorem State.markStarted_ef2 : (s.markStarted).ef2 = s.ef2 := rfl
@[simp] theorem State.markStarted_ef3 : (s.markStarted).ef3 = s.ef3 := rfl
@[simp] theorem State.markStarted_ef4 : (s.markStarted).ef4 = s.ef4 := rfl
@[simp] theorem State.markStarted_n0 : (s.markStarted).n0 = s.n0 := rfl
@[simp] theorem State.markStarted_n1 : (s.markStarted).n1 = s.n1 := rfl
@[simp] theorem State.markStarted_n2 : (s.markStarted).n2 = s.n2 := rfl
@[simp] theorem State.markStarted_mem : (s.markStarted).mem = s.mem := rfl
@[simp] theorem State.markStarted_cs : (s.markStarted).cs = s.cs := rfl
@[simp] theorem State.markStarted_branchIoExt : (s.markStarted).branchIoExt = s.branchIoExt := rfl
@[simp] theorem State.markStarted_report : (s.markStarted).report = s.report := rfl
@[simp] theorem State.markStarted_fault : (s.markStarted).fault = s.fault := rfl
@[simp] theorem State.markStarted_started : (s.markStarted).started = true := rfl
@[simp] theorem State.markStarted_pending : (s.markStarted).pending = s.pending := rfl
@[simp] theorem State.markStarted_reg (j : Nibble) : (s.markStarted).reg j = s.reg j := rfl
@[simp] theorem State.markStarted_memRead (a' : Word) : (s.markStarted).memRead a' = s.memRead a' := rfl

@[simp] theorem State.raiseDecodeFailure_d : (s.raiseDecodeFailure).d = s.d := rfl
@[simp] theorem State.raiseDecodeFailure_df : (s.raiseDecodeFailure).df = s.df := rfl
@[simp] theorem State.raiseDecodeFailure_b : (s.raiseDecodeFailure).b = s.b := rfl
@[simp] theorem State.raiseDecodeFailure_r : (s.raiseDecodeFailure).r = s.r := rfl
@[simp] theorem State.raiseDecodeFailure_p : (s.raiseDecodeFailure).p = s.p := rfl
@[simp] theorem State.raiseDecodeFailure_x : (s.raiseDecodeFailure).x = s.x := rfl
@[simp] theorem State.raiseDecodeFailure_i : (s.raiseDecodeFailure).i = s.i := rfl
@[simp] theorem State.raiseDecodeFailure_n : (s.raiseDecodeFailure).n = s.n := rfl
@[simp] theorem State.raiseDecodeFailure_t : (s.raiseDecodeFailure).t = s.t := rfl
@[simp] theorem State.raiseDecodeFailure_ie : (s.raiseDecodeFailure).ie = s.ie := rfl
@[simp] theorem State.raiseDecodeFailure_q : (s.raiseDecodeFailure).q = s.q := rfl
@[simp] theorem State.raiseDecodeFailure_bus : (s.raiseDecodeFailure).bus = s.bus := rfl
@[simp] theorem State.raiseDecodeFailure_ef1 : (s.raiseDecodeFailure).ef1 = s.ef1 := rfl
@[simp] theorem State.raiseDecodeFailure_ef2 : (s.raiseDecodeFailure).ef2 = s.ef2 := rfl
@[simp] theorem State.raiseDecodeFailure_ef3 : (s.raiseDecodeFailure).ef3 = s.ef3 := rfl
@[simp] theorem State.raiseDecodeFailure_ef4 : (s.raiseDecodeFailure).ef4 = s.ef4 := rfl
@[simp] theorem State.raiseDecodeFailure_n0 : (s.raiseDecodeFailure).n0 = s.n0 := rfl
@[simp] theorem State.raiseDecodeFailure_n1 : (s.raiseDecodeFailure).n1 = s.n1 := rfl
@[simp] theorem State.raiseDecodeFailure_n2 : (s.raiseDecodeFailure).n2 = s.n2 := rfl
@[simp] theorem State.raiseDecodeFailure_mem : (s.raiseDecodeFailure).mem = s.mem := rfl
@[simp] theorem State.raiseDecodeFailure_cs : (s.raiseDecodeFailure).cs = s.cs := rfl
@[simp] theorem State.raiseDecodeFailure_branchIoExt : (s.raiseDecodeFailure).branchIoExt = s.branchIoExt := rfl
@[simp] theorem State.raiseDecodeFailure_report : (s.raiseDecodeFailure).report = some (.decodeFailure s.decodeFailure) := rfl
@[simp] theorem State.raiseDecodeFailure_fault : (s.raiseDecodeFailure).fault = (s.fault <|> some s.decodeFailure) := rfl
@[simp] theorem State.raiseDecodeFailure_started : (s.raiseDecodeFailure).started = s.started := rfl
@[simp] theorem State.raiseDecodeFailure_pending : (s.raiseDecodeFailure).pending = s.pending := rfl
@[simp] theorem State.raiseDecodeFailure_reg (j : Nibble) : (s.raiseDecodeFailure).reg j = s.reg j := rfl
@[simp] theorem State.raiseDecodeFailure_memRead (a' : Word) : (s.raiseDecodeFailure).memRead a' = s.memRead a' := rfl

@[simp] theorem State.takeCall_d : (s.takeCall).d = s.d := rfl
@[simp] theorem State.takeCall_df : (s.takeCall).df = s.df := rfl
@[simp] theorem State.takeCall_b : (s.takeCall).b = s.b := rfl
@[simp] theorem State.takeCall_r : (s.takeCall).r = s.r := rfl
@[simp] theorem State.takeCall_p : (s.takeCall).p = s.p := rfl
@[simp] theorem State.takeCall_x : (s.takeCall).x = s.x := rfl
@[simp] theorem State.takeCall_i : (s.takeCall).i = s.i := rfl
@[simp] theorem State.takeCall_n : (s.takeCall).n = s.n := rfl
@[simp] theorem State.takeCall_t : (s.takeCall).t = s.t := rfl
@[simp] theorem State.takeCall_ie : (s.takeCall).ie = s.ie := rfl
@[simp] theorem State.takeCall_q : (s.takeCall).q = s.q := rfl
@[simp] theorem State.takeCall_bus : (s.takeCall).bus = s.bus := rfl
@[simp] theorem State.takeCall_ef1 : (s.takeCall).ef1 = s.ef1 := rfl
@[simp] theorem State.takeCall_ef2 : (s.takeCall).ef2 = s.ef2 := rfl
@[simp] theorem State.takeCall_ef3 : (s.takeCall).ef3 = s.ef3 := rfl
@[simp] theorem State.takeCall_ef4 : (s.takeCall).ef4 = s.ef4 := rfl
@[simp] theorem State.takeCall_n0 : (s.takeCall).n0 = s.n0 := rfl
@[simp] theorem State.takeCall_n1 : (s.takeCall).n1 = s.n1 := rfl
@[simp] theorem State.takeCall_n2 : (s.takeCall).n2 = s.n2 := rfl
@[simp] theorem State.takeCall_mem : (s.takeCall).mem = s.mem := rfl
@[simp] theorem State.takeCall_cs : (s.takeCall).cs = s.cs := rfl
@[simp] theorem State.takeCall_branchIoExt : (s.takeCall).branchIoExt = s.branchIoExt := rfl
@[simp] theorem State.takeCall_report : (s.takeCall).report = s.report := rfl
@[simp] theorem State.takeCall_fault : (s.takeCall).fault = s.fault := rfl
@[simp] theorem State.takeCall_started : (s.takeCall).started = s.started := rfl
@[simp] theorem State.takeCall_pending : (s.takeCall).pending = s.pending.tail := rfl
@[simp] theorem State.takeCall_reg (j : Nibble) : (s.takeCall).reg j = s.reg j := rfl
@[simp] theorem State.takeCall_memRead (a' : Word) : (s.takeCall).memRead a' = s.memRead a' := rfl

end Sys2Proof.Machine
end

