-- ==== Sys2Proof/Laws/Fields.lean ====
section
/-! SUPPORT. The same lemmas, one per field and true by `rfl`, for the shared operations built from the named updates: the ticks, the
operand forms that step a register, the adder and the shifts. -/

namespace Sys2Proof.Machine

variable (s : State)

@[simp] theorem State.resetTick_d : (s.resetTick).d = s.d := rfl
@[simp] theorem State.resetTick_df : (s.resetTick).df = s.df := rfl
@[simp] theorem State.resetTick_b : (s.resetTick).b = s.b := rfl
@[simp] theorem State.resetTick_r : (s.resetTick).r = s.r := rfl
@[simp] theorem State.resetTick_p : (s.resetTick).p = s.p := rfl
@[simp] theorem State.resetTick_x : (s.resetTick).x = s.x := rfl
@[simp] theorem State.resetTick_i : (s.resetTick).i = 0 := rfl
@[simp] theorem State.resetTick_n : (s.resetTick).n = 0 := rfl
@[simp] theorem State.resetTick_t : (s.resetTick).t = s.t := rfl
@[simp] theorem State.resetTick_ie : (s.resetTick).ie = true := rfl
@[simp] theorem State.resetTick_q : (s.resetTick).q = false := rfl
@[simp] theorem State.resetTick_bus : (s.resetTick).bus = 0 := rfl
@[simp] theorem State.resetTick_ef1 : (s.resetTick).ef1 = s.ef1 := rfl
@[simp] theorem State.resetTick_ef2 : (s.resetTick).ef2 = s.ef2 := rfl
@[simp] theorem State.resetTick_ef3 : (s.resetTick).ef3 = s.ef3 := rfl
@[simp] theorem State.resetTick_ef4 : (s.resetTick).ef4 = s.ef4 := rfl
@[simp] theorem State.resetTick_n0 : (s.resetTick).n0 = s.n0 := rfl
@[simp] theorem State.resetTick_n1 : (s.resetTick).n1 = s.n1 := rfl
@[simp] theorem State.resetTick_n2 : (s.resetTick).n2 = s.n2 := rfl
@[simp] theorem State.resetTick_mem : (s.resetTick).mem = s.mem := rfl
@[simp] theorem State.resetTick_cs : (s.resetTick).cs = .phase .reset := rfl
@[simp] theorem State.resetTick_branchIoExt : (s.resetTick).branchIoExt = s.branchIoExt := rfl
@[simp] theorem State.resetTick_report : (s.resetTick).report = s.report := rfl
@[simp] theorem State.resetTick_fault : (s.resetTick).fault = s.fault := rfl
@[simp] theorem State.resetTick_started : (s.resetTick).started = s.started := rfl
@[simp] theorem State.resetTick_pending : (s.resetTick).pending = s.pending := rfl
@[simp] theorem State.resetTick_reg (j : Nibble) : (s.resetTick).reg j = s.reg j := rfl
@[simp] theorem State.resetTick_memRead (a' : Word) : (s.resetTick).memRead a' = s.memRead a' := rfl

@[simp] theorem State.initTick_d : (s.initTick).d = s.d := rfl
@[simp] theorem State.initTick_df : (s.initTick).df = s.df := rfl
@[simp] theorem State.initTick_b : (s.initTick).b = s.b := rfl
@[simp] theorem State.initTick_p : (s.initTick).p = 0 := rfl
@[simp] theorem State.initTick_x : (s.initTick).x = 0 := rfl
@[simp] theorem State.initTick_i : (s.initTick).i = s.i := rfl
@[simp] theorem State.initTick_n : (s.initTick).n = s.n := rfl
@[simp] theorem State.initTick_t : (s.initTick).t = s.t := rfl
@[simp] theorem State.initTick_ie : (s.initTick).ie = s.ie := rfl
@[simp] theorem State.initTick_q : (s.initTick).q = s.q := rfl
@[simp] theorem State.initTick_bus : (s.initTick).bus = s.bus := rfl
@[simp] theorem State.initTick_ef1 : (s.initTick).ef1 = s.ef1 := rfl
@[simp] theorem State.initTick_ef2 : (s.initTick).ef2 = s.ef2 := rfl
@[simp] theorem State.initTick_ef3 : (s.initTick).ef3 = s.ef3 := rfl
@[simp] theorem State.initTick_ef4 : (s.initTick).ef4 = s.ef4 := rfl
@[simp] theorem State.initTick_n0 : (s.initTick).n0 = s.n0 := rfl
@[simp] theorem State.initTick_n1 : (s.initTick).n1 = s.n1 := rfl
@[simp] theorem State.initTick_n2 : (s.initTick).n2 = s.n2 := rfl
@[simp] theorem State.initTick_mem : (s.initTick).mem = s.mem := rfl
@[simp] theorem State.initTick_cs : (s.initTick).cs = .phase .fetch := rfl
@[simp] theorem State.initTick_branchIoExt : (s.initTick).branchIoExt = s.branchIoExt := rfl
@[simp] theorem State.initTick_report : (s.initTick).report = s.report := rfl
@[simp] theorem State.initTick_fault : (s.initTick).fault = s.fault := rfl
@[simp] theorem State.initTick_started : (s.initTick).started = s.started := rfl
@[simp] theorem State.initTick_pending : (s.initTick).pending = s.pending := rfl
@[simp] theorem State.initTick_memRead (a' : Word) : (s.initTick).memRead a' = s.memRead a' := rfl

@[simp] theorem State.fetchTick_d : (s.fetchTick).d = s.d := rfl
@[simp] theorem State.fetchTick_df : (s.fetchTick).df = s.df := rfl
@[simp] theorem State.fetchTick_b : (s.fetchTick).b = s.b := rfl
@[simp] theorem State.fetchTick_p : (s.fetchTick).p = s.p := rfl
@[simp] theorem State.fetchTick_x : (s.fetchTick).x = s.x := rfl
@[simp] theorem State.fetchTick_i : (s.fetchTick).i = hiNibble (s.memRead s.pc) := rfl
@[simp] theorem State.fetchTick_n : (s.fetchTick).n = loNibble (s.memRead s.pc) := rfl
@[simp] theorem State.fetchTick_t : (s.fetchTick).t = s.t := rfl
@[simp] theorem State.fetchTick_ie : (s.fetchTick).ie = s.ie := rfl
@[simp] theorem State.fetchTick_q : (s.fetchTick).q = s.q := rfl
@[simp] theorem State.fetchTick_bus : (s.fetchTick).bus = s.bus := rfl
@[simp] theorem State.fetchTick_ef1 : (s.fetchTick).ef1 = s.ef1 := rfl
@[simp] theorem State.fetchTick_ef2 : (s.fetchTick).ef2 = s.ef2 := rfl
@[simp] theorem State.fetchTick_ef3 : (s.fetchTick).ef3 = s.ef3 := rfl
@[simp] theorem State.fetchTick_ef4 : (s.fetchTick).ef4 = s.ef4 := rfl
@[simp] theorem State.fetchTick_n0 : (s.fetchTick).n0 = s.n0 := rfl
@[simp] theorem State.fetchTick_n1 : (s.fetchTick).n1 = s.n1 := rfl
@[simp] theorem State.fetchTick_n2 : (s.fetchTick).n2 = s.n2 := rfl
@[simp] theorem State.fetchTick_mem : (s.fetchTick).mem = s.mem := rfl
@[simp] theorem State.fetchTick_cs : (s.fetchTick).cs = .phase .execute := rfl
@[simp] theorem State.fetchTick_branchIoExt : (s.fetchTick).branchIoExt = s.branchIoExt := rfl
@[simp] theorem State.fetchTick_report : (s.fetchTick).report = s.report := rfl
@[simp] theorem State.fetchTick_fault : (s.fetchTick).fault = s.fault := rfl
@[simp] theorem State.fetchTick_started : (s.fetchTick).started = s.started := rfl
@[simp] theorem State.fetchTick_pending : (s.fetchTick).pending = s.pending := rfl
@[simp] theorem State.fetchTick_memRead (a' : Word) : (s.fetchTick).memRead a' = s.memRead a' := rfl

@[simp] theorem State.advanceX_d : (s.advanceX).d = s.d := rfl
@[simp] theorem State.advanceX_df : (s.advanceX).df = s.df := rfl
@[simp] theorem State.advanceX_b : (s.advanceX).b = s.b := rfl
@[simp] theorem State.advanceX_p : (s.advanceX).p = s.p := rfl
@[simp] theorem State.advanceX_x : (s.advanceX).x = s.x := rfl
@[simp] theorem State.advanceX_i : (s.advanceX).i = s.i := rfl
@[simp] theorem State.advanceX_n : (s.advanceX).n = s.n := rfl
@[simp] theorem State.advanceX_t : (s.advanceX).t = s.t := rfl
@[simp] theorem State.advanceX_ie : (s.advanceX).ie = s.ie := rfl
@[simp] theorem State.advanceX_q : (s.advanceX).q = s.q := rfl
@[simp] theorem State.advanceX_bus : (s.advanceX).bus = s.bus := rfl
@[simp] theorem State.advanceX_ef1 : (s.advanceX).ef1 = s.ef1 := rfl
@[simp] theorem State.advanceX_ef2 : (s.advanceX).ef2 = s.ef2 := rfl
@[simp] theorem State.advanceX_ef3 : (s.advanceX).ef3 = s.ef3 := rfl
@[simp] theorem State.advanceX_ef4 : (s.advanceX).ef4 = s.ef4 := rfl
@[simp] theorem State.advanceX_n0 : (s.advanceX).n0 = s.n0 := rfl
@[simp] theorem State.advanceX_n1 : (s.advanceX).n1 = s.n1 := rfl
@[simp] theorem State.advanceX_n2 : (s.advanceX).n2 = s.n2 := rfl
@[simp] theorem State.advanceX_mem : (s.advanceX).mem = s.mem := rfl
@[simp] theorem State.advanceX_cs : (s.advanceX).cs = s.cs := rfl
@[simp] theorem State.advanceX_branchIoExt : (s.advanceX).branchIoExt = s.branchIoExt := rfl
@[simp] theorem State.advanceX_report : (s.advanceX).report = s.report := rfl
@[simp] theorem State.advanceX_fault : (s.advanceX).fault = s.fault := rfl
@[simp] theorem State.advanceX_started : (s.advanceX).started = s.started := rfl
@[simp] theorem State.advanceX_pending : (s.advanceX).pending = s.pending := rfl
@[simp] theorem State.advanceX_memRead (a' : Word) : (s.advanceX).memRead a' = s.memRead a' := rfl

@[simp] theorem State.retreatX_d : (s.retreatX).d = s.d := rfl
@[simp] theorem State.retreatX_df : (s.retreatX).df = s.df := rfl
@[simp] theorem State.retreatX_b : (s.retreatX).b = s.b := rfl
@[simp] theorem State.retreatX_p : (s.retreatX).p = s.p := rfl
@[simp] theorem State.retreatX_x : (s.retreatX).x = s.x := rfl
@[simp] theorem State.retreatX_i : (s.retreatX).i = s.i := rfl
@[simp] theorem State.retreatX_n : (s.retreatX).n = s.n := rfl
@[simp] theorem State.retreatX_t : (s.retreatX).t = s.t := rfl
@[simp] theorem State.retreatX_ie : (s.retreatX).ie = s.ie := rfl
@[simp] theorem State.retreatX_q : (s.retreatX).q = s.q := rfl
@[simp] theorem State.retreatX_bus : (s.retreatX).bus = s.bus := rfl
@[simp] theorem State.retreatX_ef1 : (s.retreatX).ef1 = s.ef1 := rfl
@[simp] theorem State.retreatX_ef2 : (s.retreatX).ef2 = s.ef2 := rfl
@[simp] theorem State.retreatX_ef3 : (s.retreatX).ef3 = s.ef3 := rfl
@[simp] theorem State.retreatX_ef4 : (s.retreatX).ef4 = s.ef4 := rfl
@[simp] theorem State.retreatX_n0 : (s.retreatX).n0 = s.n0 := rfl
@[simp] theorem State.retreatX_n1 : (s.retreatX).n1 = s.n1 := rfl
@[simp] theorem State.retreatX_n2 : (s.retreatX).n2 = s.n2 := rfl
@[simp] theorem State.retreatX_mem : (s.retreatX).mem = s.mem := rfl
@[simp] theorem State.retreatX_cs : (s.retreatX).cs = s.cs := rfl
@[simp] theorem State.retreatX_branchIoExt : (s.retreatX).branchIoExt = s.branchIoExt := rfl
@[simp] theorem State.retreatX_report : (s.retreatX).report = s.report := rfl
@[simp] theorem State.retreatX_fault : (s.retreatX).fault = s.fault := rfl
@[simp] theorem State.retreatX_started : (s.retreatX).started = s.started := rfl
@[simp] theorem State.retreatX_pending : (s.retreatX).pending = s.pending := rfl
@[simp] theorem State.retreatX_memRead (a' : Word) : (s.retreatX).memRead a' = s.memRead a' := rfl

@[simp] theorem State.stepOverOperand_d : (s.stepOverOperand).d = s.d := rfl
@[simp] theorem State.stepOverOperand_df : (s.stepOverOperand).df = s.df := rfl
@[simp] theorem State.stepOverOperand_b : (s.stepOverOperand).b = s.b := rfl
@[simp] theorem State.stepOverOperand_p : (s.stepOverOperand).p = s.p := rfl
@[simp] theorem State.stepOverOperand_x : (s.stepOverOperand).x = s.x := rfl
@[simp] theorem State.stepOverOperand_i : (s.stepOverOperand).i = s.i := rfl
@[simp] theorem State.stepOverOperand_n : (s.stepOverOperand).n = s.n := rfl
@[simp] theorem State.stepOverOperand_t : (s.stepOverOperand).t = s.t := rfl
@[simp] theorem State.stepOverOperand_ie : (s.stepOverOperand).ie = s.ie := rfl
@[simp] theorem State.stepOverOperand_q : (s.stepOverOperand).q = s.q := rfl
@[simp] theorem State.stepOverOperand_bus : (s.stepOverOperand).bus = s.bus := rfl
@[simp] theorem State.stepOverOperand_ef1 : (s.stepOverOperand).ef1 = s.ef1 := rfl
@[simp] theorem State.stepOverOperand_ef2 : (s.stepOverOperand).ef2 = s.ef2 := rfl
@[simp] theorem State.stepOverOperand_ef3 : (s.stepOverOperand).ef3 = s.ef3 := rfl
@[simp] theorem State.stepOverOperand_ef4 : (s.stepOverOperand).ef4 = s.ef4 := rfl
@[simp] theorem State.stepOverOperand_n0 : (s.stepOverOperand).n0 = s.n0 := rfl
@[simp] theorem State.stepOverOperand_n1 : (s.stepOverOperand).n1 = s.n1 := rfl
@[simp] theorem State.stepOverOperand_n2 : (s.stepOverOperand).n2 = s.n2 := rfl
@[simp] theorem State.stepOverOperand_mem : (s.stepOverOperand).mem = s.mem := rfl
@[simp] theorem State.stepOverOperand_cs : (s.stepOverOperand).cs = s.cs := rfl
@[simp] theorem State.stepOverOperand_branchIoExt : (s.stepOverOperand).branchIoExt = s.branchIoExt := rfl
@[simp] theorem State.stepOverOperand_report : (s.stepOverOperand).report = s.report := rfl
@[simp] theorem State.stepOverOperand_fault : (s.stepOverOperand).fault = s.fault := rfl
@[simp] theorem State.stepOverOperand_started : (s.stepOverOperand).started = s.started := rfl
@[simp] theorem State.stepOverOperand_pending : (s.stepOverOperand).pending = s.pending := rfl
@[simp] theorem State.stepOverOperand_memRead (a' : Word) : (s.stepOverOperand).memRead a' = s.memRead a' := rfl

@[simp] theorem State.branchTo_d (aa : Byte) : (s.branchTo aa).d = s.d := rfl
@[simp] theorem State.branchTo_df (aa : Byte) : (s.branchTo aa).df = s.df := rfl
@[simp] theorem State.branchTo_b (aa : Byte) : (s.branchTo aa).b = s.b := rfl
@[simp] theorem State.branchTo_p (aa : Byte) : (s.branchTo aa).p = s.p := rfl
@[simp] theorem State.branchTo_x (aa : Byte) : (s.branchTo aa).x = s.x := rfl
@[simp] theorem State.branchTo_i (aa : Byte) : (s.branchTo aa).i = s.i := rfl
@[simp] theorem State.branchTo_n (aa : Byte) : (s.branchTo aa).n = s.n := rfl
@[simp] theorem State.branchTo_t (aa : Byte) : (s.branchTo aa).t = s.t := rfl
@[simp] theorem State.branchTo_ie (aa : Byte) : (s.branchTo aa).ie = s.ie := rfl
@[simp] theorem State.branchTo_q (aa : Byte) : (s.branchTo aa).q = s.q := rfl
@[simp] theorem State.branchTo_bus (aa : Byte) : (s.branchTo aa).bus = s.bus := rfl
@[simp] theorem State.branchTo_ef1 (aa : Byte) : (s.branchTo aa).ef1 = s.ef1 := rfl
@[simp] theorem State.branchTo_ef2 (aa : Byte) : (s.branchTo aa).ef2 = s.ef2 := rfl
@[simp] theorem State.branchTo_ef3 (aa : Byte) : (s.branchTo aa).ef3 = s.ef3 := rfl
@[simp] theorem State.branchTo_ef4 (aa : Byte) : (s.branchTo aa).ef4 = s.ef4 := rfl
@[simp] theorem State.branchTo_n0 (aa : Byte) : (s.branchTo aa).n0 = s.n0 := rfl
@[simp] theorem State.branchTo_n1 (aa : Byte) : (s.branchTo aa).n1 = s.n1 := rfl
@[simp] theorem State.branchTo_n2 (aa : Byte) : (s.branchTo aa).n2 = s.n2 := rfl
@[simp] theorem State.branchTo_mem (aa : Byte) : (s.branchTo aa).mem = s.mem := rfl
@[simp] theorem State.branchTo_cs (aa : Byte) : (s.branchTo aa).cs = s.cs := rfl
@[simp] theorem State.branchTo_branchIoExt (aa : Byte) : (s.branchTo aa).branchIoExt = s.branchIoExt := rfl
@[simp] theorem State.branchTo_report (aa : Byte) : (s.branchTo aa).report = s.report := rfl
@[simp] theorem State.branchTo_fault (aa : Byte) : (s.branchTo aa).fault = s.fault := rfl
@[simp] theorem State.branchTo_started (aa : Byte) : (s.branchTo aa).started = s.started := rfl
@[simp] theorem State.branchTo_pending (aa : Byte) : (s.branchTo aa).pending = s.pending := rfl
@[simp] theorem State.branchTo_memRead (aa : Byte) (a' : Word) : (s.branchTo aa).memRead a' = s.memRead a' := rfl

@[simp] theorem State.addCore_d (a b : Byte) (c : Bool) : (s.addCore a b c).d = BitVec.ofNat 8 (addSum a b c) := rfl
@[simp] theorem State.addCore_df (a b : Byte) (c : Bool) : (s.addCore a b c).df = decide (0xFF < addSum a b c) := rfl
@[simp] theorem State.addCore_b (a b : Byte) (c : Bool) : (s.addCore a b c).b = s.b := rfl
@[simp] theorem State.addCore_r (a b : Byte) (c : Bool) : (s.addCore a b c).r = s.r := rfl
@[simp] theorem State.addCore_p (a b : Byte) (c : Bool) : (s.addCore a b c).p = s.p := rfl
@[simp] theorem State.addCore_x (a b : Byte) (c : Bool) : (s.addCore a b c).x = s.x := rfl
@[simp] theorem State.addCore_i (a b : Byte) (c : Bool) : (s.addCore a b c).i = s.i := rfl
@[simp] theorem State.addCore_n (a b : Byte) (c : Bool) : (s.addCore a b c).n = s.n := rfl
@[simp] theorem State.addCore_t (a b : Byte) (c : Bool) : (s.addCore a b c).t = s.t := rfl
@[simp] theorem State.addCore_ie (a b : Byte) (c : Bool) : (s.addCore a b c).ie = s.ie := rfl
@[simp] theorem State.addCore_q (a b : Byte) (c : Bool) : (s.addCore a b c).q = s.q := rfl
@[simp] theorem State.addCore_bus (a b : Byte) (c : Bool) : (s.addCore a b c).bus = s.bus := rfl
@[simp] theorem State.addCore_ef1 (a b : Byte) (c : Bool) : (s.addCore a b c).ef1 = s.ef1 := rfl
@[simp] theorem State.addCore_ef2 (a b : Byte) (c : Bool) : (s.addCore a b c).ef2 = s.ef2 := rfl
@[simp] theorem State.addCore_ef3 (a b : Byte) (c : Bool) : (s.addCore a b c).ef3 = s.ef3 := rfl
@[simp] theorem State.addCore_ef4 (a b : Byte) (c : Bool) : (s.addCore a b c).ef4 = s.ef4 := rfl
@[simp] theorem State.addCore_n0 (a b : Byte) (c : Bool) : (s.addCore a b c).n0 = s.n0 := rfl
@[simp] theorem State.addCore_n1 (a b : Byte) (c : Bool) : (s.addCore a b c).n1 = s.n1 := rfl
@[simp] theorem State.addCore_n2 (a b : Byte) (c : Bool) : (s.addCore a b c).n2 = s.n2 := rfl
@[simp] theorem State.addCore_mem (a b : Byte) (c : Bool) : (s.addCore a b c).mem = s.mem := rfl
@[simp] theorem State.addCore_cs (a b : Byte) (c : Bool) : (s.addCore a b c).cs = s.cs := rfl
@[simp] theorem State.addCore_branchIoExt (a b : Byte) (c : Bool) : (s.addCore a b c).branchIoExt = s.branchIoExt := rfl
@[simp] theorem State.addCore_report (a b : Byte) (c : Bool) : (s.addCore a b c).report = s.report := rfl
@[simp] theorem State.addCore_fault (a b : Byte) (c : Bool) : (s.addCore a b c).fault = s.fault := rfl
@[simp] theorem State.addCore_started (a b : Byte) (c : Bool) : (s.addCore a b c).started = s.started := rfl
@[simp] theorem State.addCore_pending (a b : Byte) (c : Bool) : (s.addCore a b c).pending = s.pending := rfl
@[simp] theorem State.addCore_reg (a b : Byte) (c : Bool) (j : Nibble) : (s.addCore a b c).reg j = s.reg j := rfl
@[simp] theorem State.addCore_memRead (a b : Byte) (c : Bool) (a' : Word) : (s.addCore a b c).memRead a' = s.memRead a' := rfl

@[simp] theorem State.subCore_d (m u : Byte) (c : Bool) : (s.subCore m u c).d = BitVec.ofNat 8 (addSum m (~~~u) c) := rfl
@[simp] theorem State.subCore_df (m u : Byte) (c : Bool) : (s.subCore m u c).df = decide (0xFF < addSum m (~~~u) c) := rfl
@[simp] theorem State.subCore_b (m u : Byte) (c : Bool) : (s.subCore m u c).b = s.b := rfl
@[simp] theorem State.subCore_r (m u : Byte) (c : Bool) : (s.subCore m u c).r = s.r := rfl
@[simp] theorem State.subCore_p (m u : Byte) (c : Bool) : (s.subCore m u c).p = s.p := rfl
@[simp] theorem State.subCore_x (m u : Byte) (c : Bool) : (s.subCore m u c).x = s.x := rfl
@[simp] theorem State.subCore_i (m u : Byte) (c : Bool) : (s.subCore m u c).i = s.i := rfl
@[simp] theorem State.subCore_n (m u : Byte) (c : Bool) : (s.subCore m u c).n = s.n := rfl
@[simp] theorem State.subCore_t (m u : Byte) (c : Bool) : (s.subCore m u c).t = s.t := rfl
@[simp] theorem State.subCore_ie (m u : Byte) (c : Bool) : (s.subCore m u c).ie = s.ie := rfl
@[simp] theorem State.subCore_q (m u : Byte) (c : Bool) : (s.subCore m u c).q = s.q := rfl
@[simp] theorem State.subCore_bus (m u : Byte) (c : Bool) : (s.subCore m u c).bus = s.bus := rfl
@[simp] theorem State.subCore_ef1 (m u : Byte) (c : Bool) : (s.subCore m u c).ef1 = s.ef1 := rfl
@[simp] theorem State.subCore_ef2 (m u : Byte) (c : Bool) : (s.subCore m u c).ef2 = s.ef2 := rfl
@[simp] theorem State.subCore_ef3 (m u : Byte) (c : Bool) : (s.subCore m u c).ef3 = s.ef3 := rfl
@[simp] theorem State.subCore_ef4 (m u : Byte) (c : Bool) : (s.subCore m u c).ef4 = s.ef4 := rfl
@[simp] theorem State.subCore_n0 (m u : Byte) (c : Bool) : (s.subCore m u c).n0 = s.n0 := rfl
@[simp] theorem State.subCore_n1 (m u : Byte) (c : Bool) : (s.subCore m u c).n1 = s.n1 := rfl
@[simp] theorem State.subCore_n2 (m u : Byte) (c : Bool) : (s.subCore m u c).n2 = s.n2 := rfl
@[simp] theorem State.subCore_mem (m u : Byte) (c : Bool) : (s.subCore m u c).mem = s.mem := rfl
@[simp] theorem State.subCore_cs (m u : Byte) (c : Bool) : (s.subCore m u c).cs = s.cs := rfl
@[simp] theorem State.subCore_branchIoExt (m u : Byte) (c : Bool) : (s.subCore m u c).branchIoExt = s.branchIoExt := rfl
@[simp] theorem State.subCore_report (m u : Byte) (c : Bool) : (s.subCore m u c).report = s.report := rfl
@[simp] theorem State.subCore_fault (m u : Byte) (c : Bool) : (s.subCore m u c).fault = s.fault := rfl
@[simp] theorem State.subCore_started (m u : Byte) (c : Bool) : (s.subCore m u c).started = s.started := rfl
@[simp] theorem State.subCore_pending (m u : Byte) (c : Bool) : (s.subCore m u c).pending = s.pending := rfl
@[simp] theorem State.subCore_reg (m u : Byte) (c : Bool) (j : Nibble) : (s.subCore m u c).reg j = s.reg j := rfl
@[simp] theorem State.subCore_memRead (m u : Byte) (c : Bool) (a' : Word) : (s.subCore m u c).memRead a' = s.memRead a' := rfl

@[simp] theorem State.shiftRight_d (c : Bool) : (s.shiftRight c).d = BitVec.cons c (s.d.extractLsb' 1 7) := rfl
@[simp] theorem State.shiftRight_df (c : Bool) : (s.shiftRight c).df = s.d.getLsbD 0 := rfl
@[simp] theorem State.shiftRight_b (c : Bool) : (s.shiftRight c).b = s.b := rfl
@[simp] theorem State.shiftRight_r (c : Bool) : (s.shiftRight c).r = s.r := rfl
@[simp] theorem State.shiftRight_p (c : Bool) : (s.shiftRight c).p = s.p := rfl
@[simp] theorem State.shiftRight_x (c : Bool) : (s.shiftRight c).x = s.x := rfl
@[simp] theorem State.shiftRight_i (c : Bool) : (s.shiftRight c).i = s.i := rfl
@[simp] theorem State.shiftRight_n (c : Bool) : (s.shiftRight c).n = s.n := rfl
@[simp] theorem State.shiftRight_t (c : Bool) : (s.shiftRight c).t = s.t := rfl
@[simp] theorem State.shiftRight_ie (c : Bool) : (s.shiftRight c).ie = s.ie := rfl
@[simp] theorem State.shiftRight_q (c : Bool) : (s.shiftRight c).q = s.q := rfl
@[simp] theorem State.shiftRight_bus (c : Bool) : (s.shiftRight c).bus = s.bus := rfl
@[simp] theorem State.shiftRight_ef1 (c : Bool) : (s.shiftRight c).ef1 = s.ef1 := rfl
@[simp] theorem State.shiftRight_ef2 (c : Bool) : (s.shiftRight c).ef2 = s.ef2 := rfl
@[simp] theorem State.shiftRight_ef3 (c : Bool) : (s.shiftRight c).ef3 = s.ef3 := rfl
@[simp] theorem State.shiftRight_ef4 (c : Bool) : (s.shiftRight c).ef4 = s.ef4 := rfl
@[simp] theorem State.shiftRight_n0 (c : Bool) : (s.shiftRight c).n0 = s.n0 := rfl
@[simp] theorem State.shiftRight_n1 (c : Bool) : (s.shiftRight c).n1 = s.n1 := rfl
@[simp] theorem State.shiftRight_n2 (c : Bool) : (s.shiftRight c).n2 = s.n2 := rfl
@[simp] theorem State.shiftRight_mem (c : Bool) : (s.shiftRight c).mem = s.mem := rfl
@[simp] theorem State.shiftRight_cs (c : Bool) : (s.shiftRight c).cs = s.cs := rfl
@[simp] theorem State.shiftRight_branchIoExt (c : Bool) : (s.shiftRight c).branchIoExt = s.branchIoExt := rfl
@[simp] theorem State.shiftRight_report (c : Bool) : (s.shiftRight c).report = s.report := rfl
@[simp] theorem State.shiftRight_fault (c : Bool) : (s.shiftRight c).fault = s.fault := rfl
@[simp] theorem State.shiftRight_started (c : Bool) : (s.shiftRight c).started = s.started := rfl
@[simp] theorem State.shiftRight_pending (c : Bool) : (s.shiftRight c).pending = s.pending := rfl
@[simp] theorem State.shiftRight_reg (c : Bool) (j : Nibble) : (s.shiftRight c).reg j = s.reg j := rfl
@[simp] theorem State.shiftRight_memRead (c : Bool) (a' : Word) : (s.shiftRight c).memRead a' = s.memRead a' := rfl

@[simp] theorem State.shiftLeft_d (c : Bool) : (s.shiftLeft c).d = BitVec.concat (s.d.extractLsb' 0 7) c := rfl
@[simp] theorem State.shiftLeft_df (c : Bool) : (s.shiftLeft c).df = s.d.getLsbD 7 := rfl
@[simp] theorem State.shiftLeft_b (c : Bool) : (s.shiftLeft c).b = s.b := rfl
@[simp] theorem State.shiftLeft_r (c : Bool) : (s.shiftLeft c).r = s.r := rfl
@[simp] theorem State.shiftLeft_p (c : Bool) : (s.shiftLeft c).p = s.p := rfl
@[simp] theorem State.shiftLeft_x (c : Bool) : (s.shiftLeft c).x = s.x := rfl
@[simp] theorem State.shiftLeft_i (c : Bool) : (s.shiftLeft c).i = s.i := rfl
@[simp] theorem State.shiftLeft_n (c : Bool) : (s.shiftLeft c).n = s.n := rfl
@[simp] theorem State.shiftLeft_t (c : Bool) : (s.shiftLeft c).t = s.t := rfl
@[simp] theorem State.shiftLeft_ie (c : Bool) : (s.shiftLeft c).ie = s.ie := rfl
@[simp] theorem State.shiftLeft_q (c : Bool) : (s.shiftLeft c).q = s.q := rfl
@[simp] theorem State.shiftLeft_bus (c : Bool) : (s.shiftLeft c).bus = s.bus := rfl
@[simp] theorem State.shiftLeft_ef1 (c : Bool) : (s.shiftLeft c).ef1 = s.ef1 := rfl
@[simp] theorem State.shiftLeft_ef2 (c : Bool) : (s.shiftLeft c).ef2 = s.ef2 := rfl
@[simp] theorem State.shiftLeft_ef3 (c : Bool) : (s.shiftLeft c).ef3 = s.ef3 := rfl
@[simp] theorem State.shiftLeft_ef4 (c : Bool) : (s.shiftLeft c).ef4 = s.ef4 := rfl
@[simp] theorem State.shiftLeft_n0 (c : Bool) : (s.shiftLeft c).n0 = s.n0 := rfl
@[simp] theorem State.shiftLeft_n1 (c : Bool) : (s.shiftLeft c).n1 = s.n1 := rfl
@[simp] theorem State.shiftLeft_n2 (c : Bool) : (s.shiftLeft c).n2 = s.n2 := rfl
@[simp] theorem State.shiftLeft_mem (c : Bool) : (s.shiftLeft c).mem = s.mem := rfl
@[simp] theorem State.shiftLeft_cs (c : Bool) : (s.shiftLeft c).cs = s.cs := rfl
@[simp] theorem State.shiftLeft_branchIoExt (c : Bool) : (s.shiftLeft c).branchIoExt = s.branchIoExt := rfl
@[simp] theorem State.shiftLeft_report (c : Bool) : (s.shiftLeft c).report = s.report := rfl
@[simp] theorem State.shiftLeft_fault (c : Bool) : (s.shiftLeft c).fault = s.fault := rfl
@[simp] theorem State.shiftLeft_started (c : Bool) : (s.shiftLeft c).started = s.started := rfl
@[simp] theorem State.shiftLeft_pending (c : Bool) : (s.shiftLeft c).pending = s.pending := rfl
@[simp] theorem State.shiftLeft_reg (c : Bool) (j : Nibble) : (s.shiftLeft c).reg j = s.reg j := rfl
@[simp] theorem State.shiftLeft_memRead (c : Bool) (a' : Word) : (s.shiftLeft c).memRead a' = s.memRead a' := rfl

end Sys2Proof.Machine
end

