-- ==== Sys2Proof/Laws/Memory.lean ====
section
/-! SUPPORT. The laws of memory: every operation keeps the canonical form, a read sees the last write, and the canonical form is
unique. -/

namespace Sys2Proof.Machine

theorem Memory.wfFrom_cell {lo a : Nat} {v : Byte} {rest : Memory} :
    Memory.wfFrom lo ((a, v) :: rest) = true ↔
      lo ≤ a ∧ a < Config.memBytes ∧ v ≠ Config.unlistedByte ∧ Memory.wfFrom (a + 1) rest = true := by
  simp [Memory.wfFrom, and_assoc]

theorem Memory.wfFrom_weaken {lo lo' : Nat} {m : Memory} (h : lo' ≤ lo) (hm : Memory.wfFrom lo m = true) :
    Memory.wfFrom lo' m = true := by
  cases m with
  | nil => rfl
  | cons c rest =>
    obtain ⟨hlo, hrest⟩ := Memory.wfFrom_cell.mp hm
    exact Memory.wfFrom_cell.mpr ⟨h.trans hlo, hrest⟩

/-- Below the first address listed, every address reads as unlisted. -/
theorem Memory.read_below {lo : Nat} {m : Memory} (hm : Memory.wfFrom lo m = true) {a : Nat} (h : a < lo) :
    Memory.read m a = Config.unlistedByte := by
  induction m generalizing lo with
  | nil => rfl
  | cons c rest ih =>
    obtain ⟨hlo, -, -, hrest⟩ := Memory.wfFrom_cell.mp hm
    rw [Memory.read, if_neg (by omega)]
    exact ih hrest (by omega)

theorem Memory.read_cons {a : Nat} {rest : Memory} (hm : Memory.wfFrom (a + 1) rest = true) (v : Byte) (c : Nat) :
    Memory.read (Memory.cons a v rest) c = if c = a then v else Memory.read rest c := by
  unfold Memory.cons
  split
  · next hv =>
    split
    · next hc => rw [hv, hc]; exact Memory.read_below hm (by omega)
    · rfl
  · rfl

theorem Memory.wfFrom_cons {lo a : Nat} {rest : Memory} (hlo : lo ≤ a) (ha : a < Config.memBytes)
    (hm : Memory.wfFrom (a + 1) rest = true) (v : Byte) : Memory.wfFrom lo (Memory.cons a v rest) = true := by
  unfold Memory.cons
  split
  · exact Memory.wfFrom_weaken (by omega) hm
  · next hv => exact Memory.wfFrom_cell.mpr ⟨hlo, ha, hv, hm⟩

/-- A read sees the last write, and every other address reads as before (R61). -/
theorem Memory.read_write {lo : Nat} {m : Memory} (hm : Memory.wfFrom lo m = true) (a : Nat) (v : Byte) (c : Nat) :
    Memory.read (Memory.write m a v) c = if c = a then v else Memory.read m c := by
  induction m generalizing lo with
  | nil => exact Memory.read_cons rfl v c
  | cons cell rest ih =>
    obtain ⟨hlo, hb, hw, hrest⟩ := Memory.wfFrom_cell.mp hm
    unfold Memory.write
    split
    · next hab => exact Memory.read_cons (Memory.wfFrom_cell.mpr ⟨hab, hb, hw, hrest⟩) v c
    · split
      · next hab =>
        rw [Memory.read_cons (by rw [hab]; exact hrest)]
        by_cases hc : c = a
        · simp [hc]
        · simp [hc, Memory.read, ← hab]
      · next hne =>
        rw [Memory.read, ih hrest]
        by_cases hc : c = cell.1
        · simp [hc, Memory.read, Ne.symm hne]
        · simp [hc, Memory.read]

/-- A write keeps the canonical form. -/
theorem Memory.wfFrom_write {lo : Nat} {m : Memory} (hm : Memory.wfFrom lo m = true) {a : Nat} (hlo : lo ≤ a)
    (ha : a < Config.memBytes) (v : Byte) : Memory.wfFrom lo (Memory.write m a v) = true := by
  induction m generalizing lo with
  | nil => exact Memory.wfFrom_cons hlo ha rfl v
  | cons cell rest ih =>
    obtain ⟨hlo', hb, hw, hrest⟩ := Memory.wfFrom_cell.mp hm
    unfold Memory.write
    split
    · next hab => exact Memory.wfFrom_cons hlo ha (Memory.wfFrom_cell.mpr ⟨hab, hb, hw, hrest⟩) v
    · split
      · next hab => exact Memory.wfFrom_cons hlo ha (by rw [hab]; exact hrest) v
      · exact Memory.wfFrom_cell.mpr ⟨hlo', hb, hw, ih hrest (by omega)⟩

theorem Memory.wf_write {m : Memory} (hm : Memory.wf m = true) {a : Nat} (ha : a < Config.memBytes) (v : Byte) :
    Memory.wf (Memory.write m a v) = true :=
  Memory.wfFrom_write hm (Nat.zero_le a) ha v

theorem Memory.wf_nil : Memory.wf [] = true := rfl

/-- Reset's memory has the canonical form. -/
theorem reset_memory_wf : Memory.wf State.reset.mem = true := rfl

theorem word_lt_memBytes (a : Word) : a.toNat < Config.memBytes := a.isLt

/-- A store keeps the canonical form. -/
theorem State.memWrite_wf {s : State} (hm : Memory.wf s.mem = true) (a : Word) (v : Byte) :
    Memory.wf (s.memWrite a v).mem = true :=
  Memory.wf_write hm (word_lt_memBytes a) v

/-- What a read sees after a store (R61, R71). -/
theorem State.memRead_memWrite {s : State} (hm : Memory.wf s.mem = true) (a : Word) (v : Byte) (c : Word) :
    (s.memWrite a v).memRead c = if c = a then v else s.memRead c := by
  simp only [State.memRead, State.memWrite_mem, Memory.read_write hm, BitVec.toNat_inj]

theorem State.memRead_memWrite_same {s : State} (hm : Memory.wf s.mem = true) (a : Word) (v : Byte) :
    (s.memWrite a v).memRead a = v := by
  rw [State.memRead_memWrite hm, if_pos rfl]

theorem State.memRead_memWrite_other {s : State} (hm : Memory.wf s.mem = true) {a c : Word} (h : c ≠ a) (v : Byte) :
    (s.memWrite a v).memRead c = s.memRead c := by
  rw [State.memRead_memWrite hm, if_neg h]

/-- The host's load keeps the canonical form. -/
theorem State.hostLoad_wf {s : State} (hm : Memory.wf s.mem = true) (a : Nat) (v : Byte) :
    Memory.wf (s.hostLoad a v).mem = true := by
  unfold State.hostLoad
  split
  · next h => exact Memory.wf_write hm h v
  · exact hm

/-- The canonical form is unique: memories in it that read alike are equal (log 11). -/
theorem Memory.wfFrom_ext {lo : Nat} {m m' : Memory} (hm : Memory.wfFrom lo m = true) (hm' : Memory.wfFrom lo m' = true)
    (h : ∀ a, Memory.read m a = Memory.read m' a) : m = m' := by
  induction m generalizing lo m' with
  | nil =>
    cases m' with
    | nil => rfl
    | cons c rest =>
      obtain ⟨-, -, hv, -⟩ := Memory.wfFrom_cell.mp hm'
      exact absurd (by simpa [Memory.read] using (h c.1).symm) hv
  | cons c rest ih =>
    obtain ⟨hlo, -, hv, hrest⟩ := Memory.wfFrom_cell.mp hm
    cases m' with
    | nil => exact absurd (by simpa [Memory.read] using h c.1) hv
    | cons c' rest' =>
      obtain ⟨hlo', -, hv', hrest'⟩ := Memory.wfFrom_cell.mp hm'
      have hfirst : c.1 = c'.1 := by
        rcases Nat.lt_trichotomy c.1 c'.1 with hlt | heq | hgt
        · have := h c.1
          rw [Memory.read, if_pos rfl, Memory.read, if_neg (by omega), Memory.read_below hrest' (by omega)] at this
          exact absurd this hv
        · exact heq
        · have := h c'.1
          rw [Memory.read, if_neg (by omega), Memory.read_below hrest (by omega), Memory.read, if_pos rfl] at this
          exact absurd this.symm hv'
      have hbyte : c.2 = c'.2 := by
        have := h c.1
        rwa [Memory.read, if_pos rfl, Memory.read, if_pos hfirst] at this
      have htail : rest = rest' := by
        refine ih hrest (by rw [hfirst]; exact hrest') fun a => ?_
        by_cases ha : a = c.1
        · rw [Memory.read_below hrest (by omega), Memory.read_below hrest' (by omega)]
        · have := h a
          rwa [Memory.read, if_neg ha, Memory.read, if_neg (by omega)] at this
      rw [htail, Prod.ext hfirst hbyte]

end Sys2Proof.Machine
end

