-- ==== Sys2Proof/Laws/Ops.lean ====
section
/-! SUPPORT. What each shared operation can do, said once: registers and selectors, bytes of a register, operand forms, the adder and
the shifts. -/

namespace Sys2Proof.Machine

/-! ## Registers -/

theorem State.reg_setReg (s : State) (k : Nibble) (v : Word) (j : Nibble) :
    (s.setReg k v).reg j = if j = k then v else s.reg j := by
  simp only [State.reg, State.setReg, Vector.getElem_set, BitVec.toNat_inj, eq_comm]

@[simp] theorem State.reg_setReg_same (s : State) (k : Nibble) (v : Word) : (s.setReg k v).reg k = v := by
  rw [State.reg_setReg, if_pos rfl]

theorem State.reg_setReg_other (s : State) {k j : Nibble} (h : j ≠ k) (v : Word) : (s.setReg k v).reg j = s.reg j := by
  rw [State.reg_setReg, if_neg h]

/-- Every register of the power-on state holds 0x0000 (R43). -/
theorem reset_reg (k : Nibble) : State.reset.reg k = 0x0000 := by
  simp [State.reg, State.reset]

/-! ## Words of two bytes -/

theorem word_succ_toNat (w : Word) : (w + 1).toNat = (w.toNat + 1) % 65536 := by
  simp [BitVec.toNat_add]

theorem word_pred_toNat (w : Word) : (w - 1).toNat = (w.toNat + 65535) % 65536 := by
  simp [BitVec.toNat_sub, Nat.add_comm]

theorem lowByte_toNat (w : Word) : (lowByte w).toNat = w.toNat % 256 := by
  simp [lowByte, BitVec.extractLsb'_toNat]

theorem highByte_toNat (w : Word) : (highByte w).toNat = w.toNat / 256 := by
  have := w.isLt
  simp only [highByte, BitVec.extractLsb'_toNat, Nat.shiftRight_eq_div_pow]
  omega

theorem joinBytes_toNat (hi lo : Byte) : (joinBytes hi lo).toNat = hi.toNat * 256 + lo.toNat := by
  have := lo.isLt
  simp only [joinBytes, BitVec.toNat_append]
  rw [Nat.shiftLeft_eq, ← Nat.shiftLeft_eq, ← Nat.shiftLeft_add_eq_or_of_lt this, Nat.shiftLeft_eq]

theorem hiNibble_toNat (b : Byte) : (hiNibble b).toNat = b.toNat / 16 := by
  have := b.isLt
  simp only [hiNibble, BitVec.extractLsb'_toNat, Nat.shiftRight_eq_div_pow]
  omega

theorem loNibble_toNat (b : Byte) : (loNibble b).toNat = b.toNat % 16 := by
  simp [loNibble, BitVec.extractLsb'_toNat]

/-- The latched pair of an opcode byte is that byte again (R90). -/
theorem opcodeByte_nibbles (b : Byte) : opcodeByte (hiNibble b) (loNibble b) = b := by
  have := b.isLt
  apply BitVec.eq_of_toNat_eq
  have hlo := (loNibble b).isLt
  simp only [opcodeByte, BitVec.toNat_append]
  rw [← Nat.shiftLeft_add_eq_or_of_lt hlo, Nat.shiftLeft_eq, hiNibble_toNat, loNibble_toNat]
  omega

theorem hiNibble_opcodeByte (i n : Nibble) : hiNibble (opcodeByte i n) = i := by
  revert i n; decide

theorem loNibble_opcodeByte (i n : Nibble) : loNibble (opcodeByte i n) = n := by
  revert i n; decide

/-! ## Operand forms -/

/-- `R[P]` steps over the operand byte, and no other register changes (R195). -/
theorem State.stepOverOperand_reg (s : State) (j : Nibble) :
    s.stepOverOperand.reg j = if j = s.p then s.reg s.p + 1 else s.reg j :=
  State.reg_setReg s s.p (s.reg s.p + 1) j

/-- `R[X]` is incremented, and no other register changes (R191). -/
theorem State.advanceX_reg (s : State) (j : Nibble) : s.advanceX.reg j = if j = s.x then s.reg s.x + 1 else s.reg j :=
  State.reg_setReg s s.x (s.reg s.x + 1) j

/-- `R[X]` is decremented, and no other register changes (R193). -/
theorem State.retreatX_reg (s : State) (j : Nibble) : s.retreatX.reg j = if j = s.x then s.reg s.x - 1 else s.reg j :=
  State.reg_setReg s s.x (s.reg s.x - 1) j

/-- A taken branch replaces the low byte of `R[P]`, and no other register changes (R302). -/
theorem State.branchTo_reg (s : State) (aa : Byte) (j : Nibble) :
    (s.branchTo aa).reg j = if j = s.p then joinBytes (highByte (s.reg s.p)) aa else s.reg j :=
  State.reg_setReg s s.p _ j

/-! ## Ticks -/

/-- The Fetch tick steps `R[P]` past the opcode, and no other register changes (R125). -/
theorem State.fetchTick_reg (s : State) (j : Nibble) : s.fetchTick.reg j = if j = s.p then s.reg s.p + 1 else s.reg j :=
  State.reg_setReg (s.latch _ _) s.p (s.reg s.p + 1) j

/-- During the Execute tick the program counter is the address after the opcode (R35). -/
theorem State.fetchTick_pc (s : State) : s.fetchTick.pc = s.pc + 1 := by
  unfold State.pc
  rw [State.fetchTick_p, State.fetchTick_reg, if_pos rfl]

/-- The latches hold the opcode byte (R26, R125). -/
theorem State.fetchTick_opcode (s : State) : opcodeByte s.fetchTick.i s.fetchTick.n = s.memRead s.pc :=
  opcodeByte_nibbles _

/-- The operand byte of the fetched instruction is the one after its opcode (R92). -/
theorem State.fetchTick_operandByte (s : State) : s.fetchTick.operandByte = s.memRead (s.pc + 1) := by
  unfold State.operandByte
  rw [State.fetchTick_pc, State.fetchTick_memRead]

/-- The Init tick clears `R[0]`, and no other register changes (R124). -/
theorem State.initTick_reg (s : State) (j : Nibble) : s.initTick.reg j = if j = 0 then 0 else s.reg j :=
  State.reg_setReg ((s.setX 0).setP 0) 0 0 j

/-! ## The adder and the shifts -/

/-- The adder writes `D` and `DF` and nothing else (R210). -/
theorem State.addCore_eq (s : State) (a b : Byte) (c : Bool) :
    s.addCore a b c = { s with d := (s.addCore a b c).d, df := (s.addCore a b c).df } := rfl

theorem State.addCore_toNat (s : State) (a b : Byte) (c : Bool) :
    (s.addCore a b c).d.toNat = (a.toNat + b.toNat + c.toNat) % 256 := by
  simp [State.addCore, addSum]

theorem State.addCore_carry (s : State) (a b : Byte) (c : Bool) :
    (s.addCore a b c).df = true ↔ 0xFF < a.toNat + b.toNat + c.toNat :=
  decide_eq_true_iff

theorem byte_not_toNat (b : Byte) : (~~~b).toNat = 0xFF - b.toNat := by
  simp [BitVec.toNat_not]

/-- The subtracter writes `D` and `DF` and nothing else (R215). -/
theorem State.subCore_eq (s : State) (a b : Byte) (c : Bool) :
    s.subCore a b c = { s with d := (s.subCore a b c).d, df := (s.subCore a b c).df } := rfl

theorem State.subCore_toNat (s : State) (a b : Byte) (c : Bool) :
    (s.subCore a b c).d.toNat = (a.toNat + (0xFF - b.toNat) + c.toNat) % 256 := by
  rw [State.subCore, State.addCore_toNat, byte_not_toNat]

theorem State.subCore_noBorrow (s : State) (a b : Byte) (c : Bool) :
    (s.subCore a b c).df = true ↔ 0xFF < a.toNat + (0xFF - b.toNat) + c.toNat := by
  rw [State.subCore, State.addCore_carry, byte_not_toNat]

/-- A right shift writes `D` and `DF` and nothing else (R246, R247). -/
theorem State.shiftRight_eq (s : State) (c : Bool) :
    s.shiftRight c = { s with d := (s.shiftRight c).d, df := (s.shiftRight c).df } := rfl

/-- A left shift writes `D` and `DF` and nothing else (R248, R249). -/
theorem State.shiftLeft_eq (s : State) (c : Bool) :
    s.shiftLeft c = { s with d := (s.shiftLeft c).d, df := (s.shiftLeft c).df } := rfl

/-- `{c, d[7:1]}` as numbers, over every byte and flag. -/
theorem shiftRight_table :
    ∀ (d : Byte) (c : Bool), (BitVec.cons c (d.extractLsb' 1 7) : Byte).toNat = (if c then 128 else 0) + d.toNat / 2 ∧
      (d.getLsbD 0 = true ↔ d.toNat % 2 = 1) := by decide

/-- `{d[6:0], c}` as numbers, over every byte and flag. -/
theorem shiftLeft_table :
    ∀ (d : Byte) (c : Bool), (BitVec.concat (d.extractLsb' 0 7) c : Byte).toNat = d.toNat * 2 % 256 + (if c then 1 else 0) ∧
      (d.getLsbD 7 = true ↔ 128 ≤ d.toNat) := by decide

end Sys2Proof.Machine
end

