-- ==== Sys2Proof/Laws/Decode.lean ====
section
/-! SUPPORT. What the decode table can answer, said once for all 256 pairs. -/

namespace Sys2Proof

/-- An entry of the table is a well-formed instruction whose encoding is the pair's opcode byte and, where the opcode needs one, the
operand byte (R91, R95). -/
theorem decodePair_some {ext : Bool} {i n : Nibble} {v : Byte} {ins : Instr} (h : decodePair ext i n v = some ins) :
    encode ins = opcodeByte i n :: (if needsOperand i n then [v] else []) ∧ ins.wellFormed = true ∧ ins.availableIn ext = true := by
  revert h ins
  obtain ⟨i⟩ := i
  obtain ⟨n⟩ := n
  cases ext <;> fin_cases i <;> fin_cases n <;>
    first
    | (intro _ h; cases h; done)
    | (intro _ h; cases h; exact ⟨rfl, rfl, rfl⟩)

/-- Whether a pair has an entry depends on no operand byte (R93). -/
theorem decodePair_none_operand {ext : Bool} {i n : Nibble} (v : Byte) {w : Byte} (h : decodePair ext i n v = none) :
    decodePair ext i n w = none := by
  revert h
  obtain ⟨i⟩ := i
  obtain ⟨n⟩ := n
  cases ext <;> fin_cases i <;> fin_cases n <;> first | exact fun _ => rfl | (intro h; cases h)

/-- The pair (0, 0) is IDL in both profiles (R98). -/
theorem decodePair_idl (ext : Bool) (v : Byte) : decodePair ext 0 0 v = some .idl := rfl

/-- Decoding an opcode byte followed by one more byte answers what the table answers (R91, R93). -/
theorem decode_pair_iff {ext : Bool} {b v : Byte} {ins : Instr} :
    (∃ rest, decode ext [b, v] = .ok (ins, rest)) ↔ decodePair ext (hiNibble b) (loNibble b) v = some ins := by
  unfold decode
  cases h : decodePair ext (hiNibble b) (loNibble b) ([v].headD 0) with
  | none => simp_all
  | some i =>
    simp only [List.headD_cons] at h
    by_cases hop : needsOperand (hiNibble b) (loNibble b) = true <;> simp [h, hop]

end Sys2Proof
end

