-- ==== Sys2Proof/Laws/Exec.lean ====
section
/-! SUPPORT. What `exec`, a tick and a host call can do, said once: every instruction completes, which fields none of them touches,
and the one case without a next state. -/

namespace Sys2Proof.Machine

/-! ## Instructions -/

/-- A short branch writes `R[P]` and selects Fetch, and nothing else (R302). -/
theorem State.shortBranch_eq (s : State) (cond : Bool) (aa : Byte) :
    s.shortBranch cond aa = { s with r := (s.shortBranch cond aa).r, cs := .phase .fetch } := by
  cases cond <;> rfl

theorem State.shortBranch_reg (s : State) (cond : Bool) (aa : Byte) (j : Nibble) :
    (s.shortBranch cond aa).reg j =
      if j = s.p then (if cond then joinBytes (highByte (s.reg s.p)) aa else s.reg s.p + 1) else s.reg j := by
  cases cond
  · exact s.stepOverOperand_reg j
  · exact s.branchTo_reg aa j

/-- The state an instruction leaves. -/
def after (ins : Instr) (s : State) : State :=
  match exec ins s with
  | .next t => t
  | .fault _ => s
  | .refused _ => s

/-- Every instruction completes: "no defined instruction can cause" the failure (R400, R406). -/
theorem exec_eq_after (ins : Instr) (s : State) : exec ins s = .next (after ins s) := by
  cases ins <;> rfl

theorem after_of_exec {ins : Instr} {s t : State} (h : exec ins s = .next t) : t = after ins s := by
  rw [exec_eq_after] at h
  exact (Host.Outcome.next.inj h).symm

/-- The elements no instruction writes: `B`, `T`, `IE`, `EF1..EF4`, the latches, the parameter, the report, the record of the first
failure, and what the host has done or will do. -/
theorem after_frame (ins : Instr) (s : State) :
    (after ins s).b = s.b ∧ (after ins s).t = s.t ∧ (after ins s).ie = s.ie ∧ (after ins s).i = s.i ∧ (after ins s).n = s.n ∧
    (after ins s).ef1 = s.ef1 ∧ (after ins s).ef2 = s.ef2 ∧ (after ins s).ef3 = s.ef3 ∧ (after ins s).ef4 = s.ef4 ∧
    (after ins s).branchIoExt = s.branchIoExt ∧ (after ins s).report = s.report ∧ (after ins s).fault = s.fault ∧
    (after ins s).started = s.started ∧ (after ins s).pending = s.pending := by
  have branch (cond : Bool) (aa : Byte) := s.shortBranch_eq cond aa
  cases ins
  case br | bq | bz | bdf | b1 | b2 | b3 | b4 | nbr | bnq | bnz | bnf | bn1 | bn2 | bn3 | bn4 =>
    all_goals (simp only [after, exec, execBr, execBq, execBz, execBdf, execB1, execB2, execB3, execB4, execNbr, execBnq, execBnz,
      execBnf, execBn1, execBn2, execBn3, execBn4]; rw [branch]; simp)
  all_goals exact ⟨rfl, rfl, rfl, rfl, rfl, rfl, rfl, rfl, rfl, rfl, rfl, rfl, rfl, rfl⟩

end Sys2Proof.Machine
end

