-- ==== Sys2Proof/Laws/Cycle.lean ====
section
/-! SUPPORT. What a tick, a host call and a step can do, said once: one inversion lemma each, from which later proofs derive
everything. -/

namespace Sys2Proof.Machine

/-- A phase's tick after the preamble: the state it leaves in each phase (R123 to R127, R135). -/
theorem phaseTick_cases {ph : Phase} {s t : State} (h : phaseTick ph s = .next t) :
    (ph = .reset ∧ t = s.resetTick) ∨ (ph = .init ∧ t = s.initTick) ∨ (ph = .fetch ∧ t = s.fetchTick) ∨
    (∃ ins, ph = .execute ∧ s.latchedInstr = some ins ∧ t = after ins s) ∨
    (ph = .execute ∧ s.latchedInstr = none ∧ t = s.raiseDecodeFailure) ∨ (ph = .forceExecute ∧ t = s.goto .fetch) := by
  cases ph with
  | reset => exact .inl ⟨rfl, (Host.Outcome.next.inj h).symm⟩
  | init => exact .inr (.inl ⟨rfl, (Host.Outcome.next.inj h).symm⟩)
  | fetch => exact .inr (.inr (.inl ⟨rfl, (Host.Outcome.next.inj h).symm⟩))
  | execute =>
    simp only [phaseTick, executeTick] at h
    split at h
    · next ins hins => exact .inr (.inr (.inr (.inl ⟨ins, rfl, hins, after_of_exec h⟩)))
    · next hnone => exact .inr (.inr (.inr (.inr (.inl ⟨rfl, hnone, (Host.Outcome.next.inj h).symm⟩))))
  | forceExecute => exact .inr (.inr (.inr (.inr (.inr ⟨rfl, (Host.Outcome.next.inj h).symm⟩))))

theorem phaseTick_next (ph : Phase) (s : State) : ∃ t, phaseTick ph s = .next t := by
  cases ph with
  | execute =>
    simp only [phaseTick, executeTick]
    split
    · next ins _ => exact ⟨_, exec_eq_after ins s⟩
    · exact ⟨_, rfl⟩
  | reset | init | fetch | forceExecute => exact ⟨_, rfl⟩

/-- A tick is its phase's tick after the preamble, or in Pause the preamble alone (R122, R128). -/
theorem tick_cases {s t : State} (h : tick s = .next t) :
    (∃ ph, s.cs = .phase ph ∧ phaseTick ph s.clearLines = .next t) ∨ (∃ prev, s.cs = .pause prev ∧ t = s.clearLines) := by
  unfold tick at h
  split at h
  · next ph hcs => exact .inl ⟨ph, hcs, h⟩
  · next prev hcs => exact .inr ⟨prev, hcs, (Host.Outcome.next.inj h).symm⟩

/-- No tick faults or is refused (R406). -/
theorem tick_next (s : State) : ∃ t, tick s = .next t := by
  unfold tick
  split
  · exact phaseTick_next _ _
  · exact ⟨_, rfl⟩

/-- The state in which an event's inner tick runs: what the event has changed before it (R121). -/
inductive EventPrepares : State → HostCall → State → Prop where
  | tick (s : State) : EventPrepares s .tick s
  | reset (s : State) : EventPrepares s .reset (s.goto .reset)
  | runReset (s : State) (h : s.cs = .phase .reset) : EventPrepares s .run (s.markStarted.goto .init)
  | runPhase (s : State) (ph : Phase) (h : s.cs = .phase ph) (hr : ph ≠ .reset) (hi : ph ≠ .init) : EventPrepares s .run s.markStarted
  | runPause (s : State) (prev : Phase) (h : s.cs = .pause prev) : EventPrepares s .run (s.markStarted.goto prev)
  | pausePhase (s : State) (ph : Phase) (h : s.cs = .phase ph) : EventPrepares s .pause (s.freeze ph)
  | pausePause (s : State) (prev : Phase) (h : s.cs = .pause prev) : EventPrepares s .pause s

/-- Before its inner tick an event changes the control state and the record of the first `run`, and nothing else (R120, R121). -/
theorem eventPrepares_frame {s u : State} {c : HostCall} (h : EventPrepares s c u) :
    u = { s with cs := u.cs, started := u.started } := by
  cases h <;> rfl

/-- A host call that answers a state ran a tick on the state its event prepared, did nothing (`run` in Init), or was one of the calls
between events (R120, R405). -/
theorem perform_cases {c : HostCall} {s t : State} (h : perform c s = .next t) :
    (∃ u, EventPrepares s.clearReport c u ∧ tick u = .next t) ∨
    (c = .run ∧ s.cs = .phase .init ∧ t = s.clearReport.markStarted) ∨
    (∃ index value, c = .setFlag index value ∧ t = s.clearReport.hostSetFlag index value) ∨
    (∃ value, c = .setBus value ∧ t = s.clearReport.hostSetBus value) ∨
    (∃ addr value, c = .load addr value ∧ s.started = false ∧ t = s.clearReport.hostLoad addr value) := by
  cases c with
  | tick => exact .inl ⟨_, .tick _, h⟩
  | reset => exact .inl ⟨_, .reset _, h⟩
  | run =>
    simp only [perform, runEvent] at h
    split at h
    · next hcs => exact .inl ⟨_, .runReset _ hcs, h⟩
    · next hcs => exact .inr (.inl ⟨rfl, hcs, (Host.Outcome.next.inj h).symm⟩)
    · next hcs => exact .inl ⟨_, .runPhase _ _ hcs (by simp) (by simp), h⟩
    · next hcs => exact .inl ⟨_, .runPhase _ _ hcs (by simp) (by simp), h⟩
    · next hcs => exact .inl ⟨_, .runPhase _ _ hcs (by simp) (by simp), h⟩
    · next prev hcs => exact .inl ⟨_, .runPause _ prev hcs, h⟩
  | pause =>
    simp only [perform, pauseEvent] at h
    split at h
    · next ph hcs => exact .inl ⟨_, .pausePhase _ ph hcs, h⟩
    · next prev hcs => exact .inl ⟨_, .pausePause _ prev hcs, h⟩
  | setFlag index value => exact .inr (.inr (.inl ⟨index, value, rfl, (Host.Outcome.next.inj h).symm⟩))
  | setBus value => exact .inr (.inr (.inr (.inl ⟨value, rfl, (Host.Outcome.next.inj h).symm⟩)))
  | load addr value =>
    by_cases hs : s.started = true
    · exact nomatch (if_pos hs : loadCall s.clearReport addr value = _).symm.trans h
    · have hload : loadCall s.clearReport addr value = .next (s.clearReport.hostLoad addr value) := if_neg hs
      exact .inr (.inr (.inr (.inr ⟨addr, value, rfl, by simpa using hs, Host.Outcome.next.inj (h.symm.trans hload)⟩)))

/-- A host call gives no next state in one case alone: a load after the first `run` (R72, R406; log 8). -/
theorem perform_next (c : HostCall) (s : State) :
    (∃ t, perform c s = .next t) ∨ (perform c s = .refused .loadAfterFirstRun ∧ s.started = true ∧ ∃ a v, c = .load a v) := by
  cases c with
  | tick => exact .inl (tick_next s.clearReport)
  | reset => exact .inl (tick_next (s.clearReport.goto .reset))
  | run =>
    refine .inl ?_
    simp only [perform, runEvent]
    split
    · exact tick_next _
    · exact ⟨_, rfl⟩
    · exact tick_next _
    · exact tick_next _
    · exact tick_next _
    · exact tick_next _
  | pause =>
    refine .inl ?_
    simp only [perform, pauseEvent]
    split <;> exact tick_next _
  | setFlag index value => exact .inl ⟨_, rfl⟩
  | setBus value => exact .inl ⟨_, rfl⟩
  | load addr value =>
    by_cases hs : s.started = true
    · exact .inr ⟨if_pos hs, hs, addr, value, rfl⟩
    · exact .inl ⟨_, if_neg hs⟩

/-- The host's stimuli write one external flag, or only the report (R405). -/
theorem State.hostSetFlag_eq (s : State) (index value : Nat) :
    s.hostSetFlag index value =
      { s with ef1 := (s.hostSetFlag index value).ef1, ef2 := (s.hostSetFlag index value).ef2,
               ef3 := (s.hostSetFlag index value).ef3, ef4 := (s.hostSetFlag index value).ef4,
               report := (s.hostSetFlag index value).report } := by
  unfold State.hostSetFlag
  repeat' split
  all_goals rfl

/-- The host's write to `BUS` writes `BUS`, or only the report (R405). -/
theorem State.hostSetBus_eq (s : State) (value : Nat) :
    s.hostSetBus value = { s with bus := (s.hostSetBus value).bus, report := (s.hostSetBus value).report } := by
  unfold State.hostSetBus
  split <;> rfl

/-- The host's load writes memory, or only the report (R405). -/
theorem State.hostLoad_eq (s : State) (addr : Nat) (value : Byte) :
    s.hostLoad addr value = { s with mem := (s.hostLoad addr value).mem, report := (s.hostLoad addr value).report } := by
  unfold State.hostLoad
  split <;> rfl

/-- A pair without an entry in the table is latched, whatever the operand byte (R93). -/
theorem State.latchedInstr_none_of {s t : State} (h : s.latchedInstr = none) (he : t.branchIoExt = s.branchIoExt) (hi : t.i = s.i)
    (hn : t.n = s.n) : t.latchedInstr = none := by
  unfold State.latchedInstr
  rw [he, hi, hn]
  exact decodePair_none_operand _ h

/-- The pair (0, 0) latched is IDL, whatever the profile and the byte at `R[P]` (R98). -/
theorem State.latchedInstr_idl {s : State} (hi : s.i = 0) (hn : s.n = 0) : s.latchedInstr = some .idl := by
  unfold State.latchedInstr
  rw [hi, hn]
  exact decodePair_idl _ _

/-- When an Idle Execute tick comes next: the pair (0, 0) latched, and a `tick` or `run` in Execute or a `run` after a pause there (R130). -/
theorem State.idlesNext_iff (s : State) : s.idlesNext = true ↔
    s.i = 0 ∧ s.n = 0 ∧ ((s.nextCall = .tick ∧ s.cs = .phase .execute) ∨ (s.nextCall = .run ∧ s.cs = .phase .execute) ∨
      (s.nextCall = .run ∧ s.cs = .pause .execute)) := by
  unfold State.idlesNext
  generalize s.nextCall = c
  generalize s.cs = q
  rcases c with _ | _ | _ | _ | _ | _ | _ <;> rcases q with (_ | _ | _ | _ | _) | (_ | _ | _ | _ | _) <;> simp

/-! ## Runs -/

/-- A run of `k + 1` host calls whose first gives `t` is a run of `k` from `t`. -/
theorem run_succ_of_next {k : Nat} {s t : State} (h : step s = .next t) : Sys2Proof.core.run (k + 1) s = Sys2Proof.core.run k t := by
  have hc : Sys2Proof.core.step s = .next t := h
  simp only [Host.Core.run, hc]

/-- A run of `k + 1` host calls that answers a state began with a step that did. -/
theorem run_succ_cases {k : Nat} {s t : State} (h : Sys2Proof.core.run (k + 1) s = .next t) :
    ∃ u, step s = .next u ∧ Sys2Proof.core.run k u = .next t := by
  simp only [Host.Core.run] at h
  split at h
  · next u hu => exact ⟨u, hu, h⟩
  · cases h
  · cases h

end Sys2Proof.Machine
end

