-- ==== Sys2Proof/Laws/PerInstr.lean ====
section
/-! SUPPORT. The family EncodedLength, one lemma per instruction: an encoding is one byte, or two exactly when its opcode byte is one
of those that are followed by an operand byte (spec/30_encoding.md R91). -/

namespace Sys2Proof.Laws.EncodedLength

/-- The length of the encoding is the one the decoder knows from the opcode byte alone (R91). -/
def Statement (ins : Instr) : Prop :=
  ∃ op operand, encode ins = op :: operand ∧ operand.length = if needsOperand (hiNibble op) (loNibble op) then 1 else 0

theorem idl : Statement .idl := ⟨_, _, rfl, rfl⟩
theorem ldn (n : Nibble) : Statement (.ldn n) := ⟨_, _, rfl, by revert n; decide⟩
theorem inc (n : Nibble) : Statement (.inc n) := ⟨_, _, rfl, by revert n; decide⟩
theorem dec (n : Nibble) : Statement (.dec n) := ⟨_, _, rfl, by revert n; decide⟩
theorem str (n : Nibble) : Statement (.str n) := ⟨_, _, rfl, by revert n; decide⟩
theorem ldxa : Statement .ldxa := ⟨_, _, rfl, rfl⟩
theorem stxd : Statement .stxd := ⟨_, _, rfl, rfl⟩
theorem adc : Statement .adc := ⟨_, _, rfl, rfl⟩
theorem sdb : Statement .sdb := ⟨_, _, rfl, rfl⟩
theorem shrc : Statement .shrc := ⟨_, _, rfl, rfl⟩
theorem smb : Statement .smb := ⟨_, _, rfl, rfl⟩
theorem req : Statement .req := ⟨_, _, rfl, rfl⟩
theorem seq : Statement .seq := ⟨_, _, rfl, rfl⟩
theorem adci (imm : Byte) : Statement (.adci imm) := ⟨_, _, rfl, rfl⟩
theorem sdbi (imm : Byte) : Statement (.sdbi imm) := ⟨_, _, rfl, rfl⟩
theorem shlc : Statement .shlc := ⟨_, _, rfl, rfl⟩
theorem smbi (imm : Byte) : Statement (.smbi imm) := ⟨_, _, rfl, rfl⟩
theorem glo (n : Nibble) : Statement (.glo n) := ⟨_, _, rfl, by revert n; decide⟩
theorem ghi (n : Nibble) : Statement (.ghi n) := ⟨_, _, rfl, by revert n; decide⟩
theorem plo (n : Nibble) : Statement (.plo n) := ⟨_, _, rfl, by revert n; decide⟩
theorem phi (n : Nibble) : Statement (.phi n) := ⟨_, _, rfl, by revert n; decide⟩
theorem nop : Statement .nop := ⟨_, _, rfl, rfl⟩
theorem sep (n : Nibble) : Statement (.sep n) := ⟨_, _, rfl, by revert n; decide⟩
theorem sex (n : Nibble) : Statement (.sex n) := ⟨_, _, rfl, by revert n; decide⟩
theorem ldx : Statement .ldx := ⟨_, _, rfl, rfl⟩
theorem or : Statement .or := ⟨_, _, rfl, rfl⟩
theorem and : Statement .and := ⟨_, _, rfl, rfl⟩
theorem xor : Statement .xor := ⟨_, _, rfl, rfl⟩
theorem add : Statement .add := ⟨_, _, rfl, rfl⟩
theorem sd : Statement .sd := ⟨_, _, rfl, rfl⟩
theorem shr : Statement .shr := ⟨_, _, rfl, rfl⟩
theorem sm : Statement .sm := ⟨_, _, rfl, rfl⟩
theorem ldi (imm : Byte) : Statement (.ldi imm) := ⟨_, _, rfl, rfl⟩
theorem ori (imm : Byte) : Statement (.ori imm) := ⟨_, _, rfl, rfl⟩
theorem ani (imm : Byte) : Statement (.ani imm) := ⟨_, _, rfl, rfl⟩
theorem xri (imm : Byte) : Statement (.xri imm) := ⟨_, _, rfl, rfl⟩
theorem adi (imm : Byte) : Statement (.adi imm) := ⟨_, _, rfl, rfl⟩
theorem sdi (imm : Byte) : Statement (.sdi imm) := ⟨_, _, rfl, rfl⟩
theorem shl : Statement .shl := ⟨_, _, rfl, rfl⟩
theorem smi (imm : Byte) : Statement (.smi imm) := ⟨_, _, rfl, rfl⟩
theorem br (aa : Byte) : Statement (.br aa) := ⟨_, _, rfl, rfl⟩
theorem bq (aa : Byte) : Statement (.bq aa) := ⟨_, _, rfl, rfl⟩
theorem bz (aa : Byte) : Statement (.bz aa) := ⟨_, _, rfl, rfl⟩
theorem bdf (aa : Byte) : Statement (.bdf aa) := ⟨_, _, rfl, rfl⟩
theorem b1 (aa : Byte) : Statement (.b1 aa) := ⟨_, _, rfl, rfl⟩
theorem b2 (aa : Byte) : Statement (.b2 aa) := ⟨_, _, rfl, rfl⟩
theorem b3 (aa : Byte) : Statement (.b3 aa) := ⟨_, _, rfl, rfl⟩
theorem b4 (aa : Byte) : Statement (.b4 aa) := ⟨_, _, rfl, rfl⟩
theorem nbr (aa : Byte) : Statement (.nbr aa) := ⟨_, _, rfl, rfl⟩
theorem bnq (aa : Byte) : Statement (.bnq aa) := ⟨_, _, rfl, rfl⟩
theorem bnz (aa : Byte) : Statement (.bnz aa) := ⟨_, _, rfl, rfl⟩
theorem bnf (aa : Byte) : Statement (.bnf aa) := ⟨_, _, rfl, rfl⟩
theorem bn1 (aa : Byte) : Statement (.bn1 aa) := ⟨_, _, rfl, rfl⟩
theorem bn2 (aa : Byte) : Statement (.bn2 aa) := ⟨_, _, rfl, rfl⟩
theorem bn3 (aa : Byte) : Statement (.bn3 aa) := ⟨_, _, rfl, rfl⟩
theorem bn4 (aa : Byte) : Statement (.bn4 aa) := ⟨_, _, rfl, rfl⟩
theorem out (dev : BitVec 3) : Statement (.out dev) := ⟨_, _, rfl, by revert dev; decide⟩
theorem inp (dev : BitVec 3) : Statement (.inp dev) := ⟨_, _, rfl, by revert dev; decide⟩

end Sys2Proof.Laws.EncodedLength
end

