-- ==== Sys2Proof/Tests/Slice0.lean ====
section
/-! SUPPORT. The model's own tests: ill-formed terms refused, one encoding written out for each constructor, one or two single steps of
each instruction with results from spec/95_test_vectors.md, and a state meeting the hypotheses of each statement that has any. -/

namespace Sys2Proof.Tests

open Sys2Proof.Machine

/-! ## Well-formedness: each check refuses an ill-formed term -/

theorem test_wellFormed_refuses_ldn_0 : (Instr.ldn 0).wellFormed = false := by decide
theorem test_wellFormed_refuses_out_0 : (Instr.out 0).wellFormed = false := by decide
theorem test_wellFormed_refuses_inp_0 : (Instr.inp 0).wellFormed = false := by decide
theorem test_wellFormed_bounds :
    (Instr.ldn 1).wellFormed = true ∧ (Instr.ldn 15).wellFormed = true ∧ (Instr.out 7).wellFormed = true ∧
      (Instr.inp 1).wellFormed = true := by decide
theorem test_profile_refuses_br_in_base : (Instr.br 0).availableIn false = false ∧ (Instr.br 0).availableIn true = true := by decide

/-! ## Decoding: words written out bit by bit from spec/30_encoding.md R94, R95 and spec/48_ext_branch_io.md R301; the low eight bits
are the opcode byte, the high eight the operand byte (R101) -/

theorem test_decode_idl : decodeTableWord 8 0b00000000 = some (.idl) := by decide
theorem test_decode_ldn : decodeTableWord 8 0b00001010 = some (.ldn 10) := by decide
theorem test_decode_inc : decodeTableWord 8 0b00010011 = some (.inc 3) := by decide
theorem test_decode_dec : decodeTableWord 8 0b00101100 = some (.dec 12) := by decide
theorem test_decode_str : decodeTableWord 8 0b01010101 = some (.str 5) := by decide
theorem test_decode_ldxa : decodeTableWord 8 0b01110010 = some (.ldxa) := by decide
theorem test_decode_stxd : decodeTableWord 8 0b01110011 = some (.stxd) := by decide
theorem test_decode_adc : decodeTableWord 8 0b01110100 = some (.adc) := by decide
theorem test_decode_sdb : decodeTableWord 8 0b01110101 = some (.sdb) := by decide
theorem test_decode_shrc : decodeTableWord 8 0b01110110 = some (.shrc) := by decide
theorem test_decode_smb : decodeTableWord 8 0b01110111 = some (.smb) := by decide
theorem test_decode_req : decodeTableWord 8 0b01111010 = some (.req) := by decide
theorem test_decode_seq : decodeTableWord 8 0b01111011 = some (.seq) := by decide
theorem test_decode_adci : decodeTableWord 16 0b1010010101111100 = some (.adci 0xA5) := by decide
theorem test_decode_sdbi : decodeTableWord 16 0b1010010101111101 = some (.sdbi 0xA5) := by decide
theorem test_decode_shlc : decodeTableWord 8 0b01111110 = some (.shlc) := by decide
theorem test_decode_smbi : decodeTableWord 16 0b1010010101111111 = some (.smbi 0xA5) := by decide
theorem test_decode_glo : decodeTableWord 8 0b10000011 = some (.glo 3) := by decide
theorem test_decode_ghi : decodeTableWord 8 0b10011001 = some (.ghi 9) := by decide
theorem test_decode_plo : decodeTableWord 8 0b10100110 = some (.plo 6) := by decide
theorem test_decode_phi : decodeTableWord 8 0b10111111 = some (.phi 15) := by decide
theorem test_decode_nop : decodeTableWord 8 0b11000100 = some (.nop) := by decide
theorem test_decode_sep : decodeTableWord 8 0b11010011 = some (.sep 3) := by decide
theorem test_decode_sex : decodeTableWord 8 0b11101110 = some (.sex 14) := by decide
theorem test_decode_ldx : decodeTableWord 8 0b11110000 = some (.ldx) := by decide
theorem test_decode_or : decodeTableWord 8 0b11110001 = some (.or) := by decide
theorem test_decode_and : decodeTableWord 8 0b11110010 = some (.and) := by decide
theorem test_decode_xor : decodeTableWord 8 0b11110011 = some (.xor) := by decide
theorem test_decode_add : decodeTableWord 8 0b11110100 = some (.add) := by decide
theorem test_decode_sd : decodeTableWord 8 0b11110101 = some (.sd) := by decide
theorem test_decode_shr : decodeTableWord 8 0b11110110 = some (.shr) := by decide
theorem test_decode_sm : decodeTableWord 8 0b11110111 = some (.sm) := by decide
theorem test_decode_ldi : decodeTableWord 16 0b1010010111111000 = some (.ldi 0xA5) := by decide
theorem test_decode_ori : decodeTableWord 16 0b1010010111111001 = some (.ori 0xA5) := by decide
theorem test_decode_ani : decodeTableWord 16 0b1010010111111010 = some (.ani 0xA5) := by decide
theorem test_decode_xri : decodeTableWord 16 0b1010010111111011 = some (.xri 0xA5) := by decide
theorem test_decode_adi : decodeTableWord 16 0b1010010111111100 = some (.adi 0xA5) := by decide
theorem test_decode_sdi : decodeTableWord 16 0b1010010111111101 = some (.sdi 0xA5) := by decide
theorem test_decode_shl : decodeTableWord 8 0b11111110 = some (.shl) := by decide
theorem test_decode_smi : decodeTableWord 16 0b1010010111111111 = some (.smi 0xA5) := by decide
theorem test_decode_br : decodeTableWord 16 0b1010010100110000 = some (.br 0xA5) := by decide
theorem test_decode_bq : decodeTableWord 16 0b1010010100110001 = some (.bq 0xA5) := by decide
theorem test_decode_bz : decodeTableWord 16 0b1010010100110010 = some (.bz 0xA5) := by decide
theorem test_decode_bdf : decodeTableWord 16 0b1010010100110011 = some (.bdf 0xA5) := by decide
theorem test_decode_b1 : decodeTableWord 16 0b1010010100110100 = some (.b1 0xA5) := by decide
theorem test_decode_b2 : decodeTableWord 16 0b1010010100110101 = some (.b2 0xA5) := by decide
theorem test_decode_b3 : decodeTableWord 16 0b1010010100110110 = some (.b3 0xA5) := by decide
theorem test_decode_b4 : decodeTableWord 16 0b1010010100110111 = some (.b4 0xA5) := by decide
theorem test_decode_nbr : decodeTableWord 16 0b1010010100111000 = some (.nbr 0xA5) := by decide
theorem test_decode_bnq : decodeTableWord 16 0b1010010100111001 = some (.bnq 0xA5) := by decide
theorem test_decode_bnz : decodeTableWord 16 0b1010010100111010 = some (.bnz 0xA5) := by decide
theorem test_decode_bnf : decodeTableWord 16 0b1010010100111011 = some (.bnf 0xA5) := by decide
theorem test_decode_bn1 : decodeTableWord 16 0b1010010100111100 = some (.bn1 0xA5) := by decide
theorem test_decode_bn2 : decodeTableWord 16 0b1010010100111101 = some (.bn2 0xA5) := by decide
theorem test_decode_bn3 : decodeTableWord 16 0b1010010100111110 = some (.bn3 0xA5) := by decide
theorem test_decode_bn4 : decodeTableWord 16 0b1010010100111111 = some (.bn4 0xA5) := by decide
theorem test_decode_out : decodeTableWord 8 0b01100011 = some (.out 3) := by decide
theorem test_decode_inp : decodeTableWord 8 0b01101101 = some (.inp 5) := by decide
theorem test_decode_undefined :
    decodeTableWord 8 0b01000000 = none ∧ decodeTableWord 8 0b01100000 = none ∧ decodeTableWord 8 0b01101000 = none ∧
      decodeTableWord 8 0b01110000 = none ∧ decodeTableWord 8 0b01110001 = none ∧ decodeTableWord 8 0b01111000 = none ∧
      decodeTableWord 8 0b01111001 = none ∧ decodeTableWord 8 0b11000000 = none ∧ decodeTableWord 8 0b11000101 = none := by decide
theorem test_decode_base_refuses_ext :
    decode false [0b00110000, 0x80] = .error (.undefinedPair 3 0) ∧ decode false [0b01100001] = .error (.undefinedPair 6 1) := by decide
theorem test_decode_needs_operand : decode false [0b11111000] = .error (.noOperand 15 8) ∧ decode false [] = .error .noBytes := by decide
theorem test_decode_leaves_rest : decode false [0b11111000, 0x3A, 0x99] = .ok (.ldi 0x3A, [0x99]) := by decide

/-! ## Single steps: the harness of spec/95_test_vectors.md section 2, entered at the Execute tick -/

/-- Before the Fetch tick of the harness: `R[0]` = 0100, `X` = 2, `R[2]` = 1234, and `mem` at 1234. -/
def harness (d : Byte) (df : Bool) (operand : Byte) : State :=
  State.memWrite (({ State.reset with cs := .phase .fetch, x := 2, d := d, df := df }.setReg 0 0x0100).setReg 2 0x1234) 0x1234 operand

/-- One step on the state in which the word `w` has been fetched: what `view` sees of the next state. -/
def stepView {α : Type} (s : State) (w : Nat) (view : State → α) : Option α :=
  match step (s.withFetchWord 16 w) with
  | .next t => some (view t)
  | .fault _ => none
  | .refused _ => none

/-- `D`, `DF`, the program counter and the next control state. -/
def viewD (t : State) : Byte × Bool × Word × Control := (t.d, t.df, t.pc, t.cs)

theorem test_idl :
    stepView ((harness 0x11 false 0x4B).setReg 0 0x000C) 0x5A00
      (fun t => (t.d, t.bus, t.pc, t.cs)) =
        some (0x11, 0x5A, 0x000D, .phase .execute) := by decide
theorem test_idl_uses_R0 :
    stepView ((((harness 0x11 false 0x4B).setP 3).setReg 3 0x0200).setReg 0 0x1234) 0x00
      (fun t => (t.bus, t.pc, t.reg 0)) =
        some (0x4B, 0x0201, 0x1234) := by decide
theorem test_ldn :
    stepView ((harness 0x11 true 0x4B).setReg 5 0x1234) 0x05
      (fun t => (viewD t, t.reg 5)) =
        some ((0x4B, true, 0x0101, .phase .fetch), 0x1234) := by decide
theorem test_ldn_top_of_memory :
    stepView (((harness 0x11 false 0x4B).setReg 15 0xFFFF).memWrite 0xFFFF 0x99) 0x0F
      viewD =
        some (0x99, false, 0x0101, .phase .fetch) := by decide
theorem test_inc_wraps :
    stepView ((harness 0x11 true 0x4B).setReg 3 0xFFFF) 0x13
      (fun t => (viewD t, t.reg 3)) =
        some ((0x11, true, 0x0101, .phase .fetch), 0x0000) := by decide
theorem test_inc_of_pc :
    stepView (harness 0x11 false 0x4B) 0x10 viewD = some (0x11, false, 0x0102, .phase .fetch) := by decide
theorem test_dec_wraps :
    stepView ((harness 0x11 true 0x4B).setReg 3 0x0000) 0x23
      (fun t => (viewD t, t.reg 3)) =
        some ((0x11, true, 0x0101, .phase .fetch), 0xFFFF) := by decide
theorem test_dec_of_pc :
    stepView (harness 0x11 false 0x4B) 0x20 viewD = some (0x11, false, 0x0100, .phase .fetch) := by decide
theorem test_glo :
    stepView ((harness 0x11 true 0x4B).setReg 3 0x1234) 0x83
      (fun t => (viewD t, t.reg 3)) =
        some ((0x34, true, 0x0101, .phase .fetch), 0x1234) := by decide
theorem test_ghi :
    stepView ((harness 0x11 true 0x4B).setReg 3 0x1234) 0x93
      (fun t => (viewD t, t.reg 3)) =
        some ((0x12, true, 0x0101, .phase .fetch), 0x1234) := by decide
theorem test_glo_of_pc_across_page :
    stepView ((harness 0x11 true 0x4B).setReg 0 0x01FF) 0x80 viewD = some (0x00, true, 0x0200, .phase .fetch) := by decide
theorem test_ghi_of_pc_across_page :
    stepView ((harness 0x11 true 0x4B).setReg 0 0x01FF) 0x90 viewD = some (0x02, true, 0x0200, .phase .fetch) := by decide
theorem test_plo :
    stepView ((harness 0x42 true 0x4B).setReg 3 0xFFFF) 0xA3
      (fun t => (viewD t, t.reg 3)) =
        some ((0x42, true, 0x0101, .phase .fetch), 0xFF42) := by decide
theorem test_phi :
    stepView ((harness 0x42 true 0x4B).setReg 3 0xFFFF) 0xB3
      (fun t => (viewD t, t.reg 3)) =
        some ((0x42, true, 0x0101, .phase .fetch), 0x42FF) := by decide
theorem test_plo_jumps :
    stepView ((harness 0x42 true 0x4B).setReg 0 0x01FF) 0xA0 viewD = some (0x42, true, 0x0242, .phase .fetch) := by decide
theorem test_phi_jumps :
    stepView ((harness 0x42 true 0x4B).setReg 0 0x01FF) 0xB0 viewD = some (0x42, true, 0x4200, .phase .fetch) := by decide
theorem test_ldx :
    stepView (harness 0x11 true 0x4B) 0xF0 viewD = some (0x4B, true, 0x0101, .phase .fetch) := by decide
theorem test_ldx_of_pc :
    stepView ((harness 0x11 false 0x4B).setX 0) 0x99F0 viewD = some (0x99, false, 0x0101, .phase .fetch) := by decide
theorem test_ldxa_wraps :
    stepView (((harness 0x11 true 0x00).setReg 2 0xFFFF).memWrite 0xFFFF 0x4B) 0x72
      (fun t => (viewD t, t.reg 2)) =
        some ((0x4B, true, 0x0101, .phase .fetch), 0x0000) := by decide
theorem test_ldxa_of_pc :
    stepView ((harness 0x11 false 0x4B).setX 0) 0x9972 viewD = some (0x99, false, 0x0102, .phase .fetch) := by decide
theorem test_str :
    stepView ((harness 0x85 true 0x4B).setReg 3 0x0021) 0x53
      (fun t => (viewD t, t.memRead 0x0021, t.reg 3, t.memRead 0x1234)) =
        some ((0x85, true, 0x0101, .phase .fetch), 0x85, 0x0021, 0x4B) := by decide
theorem test_str_of_pc :
    stepView (harness 0xC4 false 0x4B) 0x50 (fun t => (t.pc, t.memRead 0x0101)) = some (0x0101, 0xC4) := by decide
theorem test_stxd_wraps :
    stepView ((harness 0xAA true 0x4B).setReg 2 0x0000) 0x73
      (fun t => (viewD t, t.memRead 0x0000, t.reg 2, t.memRead 0xFFFF)) =
        some ((0xAA, true, 0x0101, .phase .fetch), 0xAA, 0xFFFF, 0x00) := by decide
theorem test_stxd_of_pc :
    stepView ((harness 0x73 false 0x4B).setX 0) 0x73 (fun t => (t.pc, t.memRead 0x0101)) = some (0x0100, 0x73) := by decide
theorem test_ldi :
    stepView (harness 0x11 true 0x4B) 0x3AF8 viewD = some (0x3A, true, 0x0102, .phase .fetch) := by decide
theorem test_ldi_across_top_of_memory :
    stepView ((harness 0x11 false 0x4B).setReg 0 0xFFFF) 0x77F8 viewD = some (0x77, false, 0x0001, .phase .fetch) := by decide
theorem test_add_ignores_carry_in :
    stepView (harness 0x3A true 0x4B) 0xF4 viewD = some (0x85, false, 0x0101, .phase .fetch) := by decide
theorem test_add_carries :
    stepView (harness 0x3A false 0xF0) 0xF4 viewD = some (0x2A, true, 0x0101, .phase .fetch) := by decide
theorem test_adi_carries :
    stepView (harness 0x80 false 0x00) 0x80FC viewD = some (0x00, true, 0x0102, .phase .fetch) := by decide
theorem test_adi_no_overflow_flag :
    stepView (harness 0x7F true 0x00) 0x01FC viewD = some (0x80, false, 0x0102, .phase .fetch) := by decide
theorem test_adc :
    stepView (harness 0x3A true 0x4B) 0x74 viewD = some (0x86, false, 0x0101, .phase .fetch) := by decide
theorem test_adc_largest :
    stepView (harness 0xFF true 0xFF) 0x74 viewD = some (0xFF, true, 0x0101, .phase .fetch) := by decide
theorem test_adci :
    stepView (harness 0x00 true 0x00) 0x007C viewD = some (0x01, false, 0x0102, .phase .fetch) := by decide
theorem test_adci_carries :
    stepView (harness 0xFE true 0x00) 0x017C viewD = some (0x00, true, 0x0102, .phase .fetch) := by decide
theorem test_sd :
    stepView (harness 0x3A false 0x4B) 0xF5 viewD = some (0x11, true, 0x0101, .phase .fetch) := by decide
theorem test_sd_borrows :
    stepView (harness 0x4B true 0x3A) 0xF5 viewD = some (0xEF, false, 0x0101, .phase .fetch) := by decide
theorem test_sdi_borrows :
    stepView (harness 0x01 false 0x00) 0x00FD viewD = some (0xFF, false, 0x0102, .phase .fetch) := by decide
theorem test_sdi :
    stepView (harness 0x01 false 0x00) 0x10FD viewD = some (0x0F, true, 0x0102, .phase .fetch) := by decide
theorem test_sdb :
    stepView (harness 0x3A false 0x4B) 0x75 viewD = some (0x10, true, 0x0101, .phase .fetch) := by decide
theorem test_sdb_borrow_propagates :
    stepView (harness 0x55 false 0x55) 0x75 viewD = some (0xFF, false, 0x0101, .phase .fetch) := by decide
theorem test_sdbi :
    stepView (harness 0x3A true 0x00) 0x4B7D viewD = some (0x11, true, 0x0102, .phase .fetch) := by decide
theorem test_sdbi_borrows :
    stepView (harness 0x00 false 0x00) 0x007D viewD = some (0xFF, false, 0x0102, .phase .fetch) := by decide
theorem test_sm_borrows :
    stepView (harness 0x3A false 0x4B) 0xF7 viewD = some (0xEF, false, 0x0101, .phase .fetch) := by decide
theorem test_sm :
    stepView (harness 0x4B false 0x3A) 0xF7 viewD = some (0x11, true, 0x0101, .phase .fetch) := by decide
theorem test_smi :
    stepView (harness 0x10 false 0x00) 0x01FF viewD = some (0x0F, true, 0x0102, .phase .fetch) := by decide
theorem test_smi_of_zero :
    stepView (harness 0x42 false 0x00) 0x00FF viewD = some (0x42, true, 0x0102, .phase .fetch) := by decide
theorem test_smb :
    stepView (harness 0x4B false 0x3A) 0x77 viewD = some (0x10, true, 0x0101, .phase .fetch) := by decide
theorem test_smb_no_borrow_in :
    stepView (harness 0x4B true 0x3A) 0x77 viewD = some (0x11, true, 0x0101, .phase .fetch) := by decide
theorem test_smbi_borrows :
    stepView (harness 0x00 false 0x00) 0x007F viewD = some (0xFF, false, 0x0102, .phase .fetch) := by decide
theorem test_smbi :
    stepView (harness 0x80 false 0x00) 0x7F7F viewD = some (0x00, true, 0x0102, .phase .fetch) := by decide
theorem test_or :
    stepView (harness 0xCC true 0xAA) 0xF1 viewD = some (0xEE, true, 0x0101, .phase .fetch) := by decide
theorem test_and :
    stepView (harness 0xCC true 0xAA) 0xF2 viewD = some (0x88, true, 0x0101, .phase .fetch) := by decide
theorem test_xor :
    stepView (harness 0xCC true 0xAA) 0xF3 viewD = some (0x66, true, 0x0101, .phase .fetch) := by decide
theorem test_ori :
    stepView (harness 0xCC true 0x00) 0xAAF9 viewD = some (0xEE, true, 0x0102, .phase .fetch) := by decide
theorem test_ani :
    stepView (harness 0xCC true 0xFF) 0xAAFA viewD = some (0x88, true, 0x0102, .phase .fetch) := by decide
theorem test_xri :
    stepView (harness 0xCC true 0x00) 0xAAFB viewD = some (0x66, true, 0x0102, .phase .fetch) := by decide
theorem test_shr :
    stepView (harness 0x81 true 0x00) 0xF6 viewD = some (0x40, true, 0x0101, .phase .fetch) := by decide
theorem test_shr_clears_df :
    stepView (harness 0x7E true 0x00) 0xF6 viewD = some (0x3F, false, 0x0101, .phase .fetch) := by decide
theorem test_shrc :
    stepView (harness 0x81 true 0x00) 0x76 viewD = some (0xC0, true, 0x0101, .phase .fetch) := by decide
theorem test_shrc_of_zero :
    stepView (harness 0x00 true 0x00) 0x76 viewD = some (0x80, false, 0x0101, .phase .fetch) := by decide
theorem test_shl :
    stepView (harness 0x81 true 0x00) 0xFE viewD = some (0x02, true, 0x0101, .phase .fetch) := by decide
theorem test_shl_clears_df :
    stepView (harness 0x7E true 0x00) 0xFE viewD = some (0xFC, false, 0x0101, .phase .fetch) := by decide
theorem test_shlc :
    stepView (harness 0x81 true 0x00) 0x7E viewD = some (0x03, true, 0x0101, .phase .fetch) := by decide
theorem test_shlc_of_zero :
    stepView (harness 0x00 true 0x00) 0x7E viewD = some (0x01, false, 0x0101, .phase .fetch) := by decide
theorem test_sep :
    stepView ((harness 0x11 true 0x4B).setReg 3 0x0200) 0xD3
      (fun t => (viewD t, t.p, t.reg 0)) =
        some ((0x11, true, 0x0200, .phase .fetch), 3, 0x0101) := by decide
theorem test_sex :
    stepView (harness 0x11 false 0x4B) 0xE5
      (fun t => (viewD t, t.x, t.p)) =
        some ((0x11, false, 0x0101, .phase .fetch), 5, 0) := by decide
theorem test_seq :
    stepView (harness 0x11 false 0x4B) 0x7B
      (fun t => (viewD t, t.q)) =
        some ((0x11, false, 0x0101, .phase .fetch), true) := by decide
theorem test_req :
    stepView ((harness 0x11 false 0x4B).setQ true) 0x7A
      (fun t => (viewD t, t.q)) =
        some ((0x11, false, 0x0101, .phase .fetch), false) := by decide
theorem test_nop :
    stepView (harness 0x11 false 0x4B) 0xC4 viewD = some (0x11, false, 0x0101, .phase .forceExecute) := by decide

/-- The branch harness: opcode at 0210; state A (`on` false) and state B (`on` true) of section 2.11. -/
def branchHarness (on : Bool) : State :=
  State.setReg { State.reset with
    cs := .phase .fetch, branchIoExt := true, q := on, d := if on then 0x00 else 0x01, df := on,
    ef1 := on, ef2 := on, ef3 := on, ef4 := on } 0 0x0210

theorem test_br :
    stepView (branchHarness false) 0x8030 State.pc = some 0x0280 ∧
      stepView (branchHarness true) 0x8030 State.pc = some 0x0280 := by decide
theorem test_bq :
    stepView (branchHarness false) 0x8031 State.pc = some 0x0212 ∧
      stepView (branchHarness true) 0x8031 State.pc = some 0x0280 := by decide
theorem test_bz :
    stepView (branchHarness false) 0x8032 State.pc = some 0x0212 ∧
      stepView (branchHarness true) 0x8032 State.pc = some 0x0280 := by decide
theorem test_bdf :
    stepView (branchHarness false) 0x8033 State.pc = some 0x0212 ∧
      stepView (branchHarness true) 0x8033 State.pc = some 0x0280 := by decide
theorem test_b1 :
    stepView (branchHarness false) 0x8034 State.pc = some 0x0212 ∧
      stepView (branchHarness true) 0x8034 State.pc = some 0x0280 := by decide
theorem test_b2 :
    stepView (branchHarness false) 0x8035 State.pc = some 0x0212 ∧
      stepView (branchHarness true) 0x8035 State.pc = some 0x0280 := by decide
theorem test_b3 :
    stepView (branchHarness false) 0x8036 State.pc = some 0x0212 ∧
      stepView (branchHarness true) 0x8036 State.pc = some 0x0280 := by decide
theorem test_b4 :
    stepView (branchHarness false) 0x8037 State.pc = some 0x0212 ∧
      stepView (branchHarness true) 0x8037 State.pc = some 0x0280 := by decide
theorem test_nbr :
    stepView (branchHarness false) 0x8038 State.pc = some 0x0212 ∧
      stepView (branchHarness true) 0x8038 State.pc = some 0x0212 := by decide
theorem test_bnq :
    stepView (branchHarness false) 0x8039 State.pc = some 0x0280 ∧
      stepView (branchHarness true) 0x8039 State.pc = some 0x0212 := by decide
theorem test_bnz :
    stepView (branchHarness false) 0x803A State.pc = some 0x0280 ∧
      stepView (branchHarness true) 0x803A State.pc = some 0x0212 := by decide
theorem test_bnf :
    stepView (branchHarness false) 0x803B State.pc = some 0x0280 ∧
      stepView (branchHarness true) 0x803B State.pc = some 0x0212 := by decide
theorem test_bn1 :
    stepView (branchHarness false) 0x803C State.pc = some 0x0280 ∧
      stepView (branchHarness true) 0x803C State.pc = some 0x0212 := by decide
theorem test_bn2 :
    stepView (branchHarness false) 0x803D State.pc = some 0x0280 ∧
      stepView (branchHarness true) 0x803D State.pc = some 0x0212 := by decide
theorem test_bn3 :
    stepView (branchHarness false) 0x803E State.pc = some 0x0280 ∧
      stepView (branchHarness true) 0x803E State.pc = some 0x0212 := by decide
theorem test_bn4 :
    stepView (branchHarness false) 0x803F State.pc = some 0x0280 ∧
      stepView (branchHarness true) 0x803F State.pc = some 0x0212 := by decide
theorem test_b1_b4_read_their_own_flag :
    stepView { branchHarness false with ef1 := true } 0x8034 State.pc = some 0x0280 ∧
      stepView { branchHarness false with ef1 := true } 0x8035 State.pc = some 0x0212 ∧
      stepView { branchHarness false with ef3 := true } 0x8036 State.pc = some 0x0280 ∧
      stepView { branchHarness false with ef3 := true } 0x8037 State.pc = some 0x0212 := by decide
theorem test_br_page_corner :
    stepView ((branchHarness false).setReg 0 0x02FF) 0x0530 State.pc = some 0x0305 ∧
      stepView ((branchHarness false).setReg 0 0xFFFF) 0x0538 State.pc = some 0x0001 := by decide
theorem test_out :
    stepView ((((harness 0x11 true 0x4B).setReg 2 0x0300).memWrite 0x0300 0x5A)) 0x63
      (fun t => (viewD t, t.bus, t.reg 2, [t.n2, t.n1, t.n0])) =
        some ((0x11, true, 0x0101, .phase .fetch), 0x5A, 0x0301, [false, true, true]) := by decide
theorem test_out_of_pc :
    stepView ((harness 0x11 false 0x4B).setX 0) 0x1167
      (fun t => (t.bus, t.pc, t.n2, t.n1, t.n0)) =
        some (0x11, 0x0102, true, true, true) := by decide
theorem test_inp :
    stepView (((harness 0x11 true 0x4B).setReg 2 0x0300).setBus 0xA7) 0x6D
      (fun t => (viewD t, t.memRead 0x0300, t.reg 2, t.bus, [t.n2, t.n1, t.n0])) =
        some ((0xA7, true, 0x0101, .phase .fetch), 0xA7, 0x0300, 0xA7, [true, false, true]) := by decide
theorem test_inp_nothing_driven :
    stepView ((harness 0x11 false 0x4B).setReg 2 0x1234) 0x69
      (fun t => (t.d, t.memRead 0x1234, t.n2, t.n1, t.n0)) =
        some (0x00, 0x00, false, false, true) := by decide

/-! ## The state machine: one host call each (spec/95_test_vectors.md sections 2.1 and 2.10) -/

/-- One host call on `s`: what `view` sees of the next state. -/
def callView {α : Type} (c : HostCall) (s : State) (view : State → α) : Option α :=
  match step { s with pending := [c] } with
  | .next t => some (view t)
  | .fault _ => none
  | .refused _ => none

theorem test_tick_holds_reset :
    callView .tick State.reset (fun t => (t.cs, t.i, t.pc, t.report)) = some (.phase .reset, 0, 0x0000, none) := by decide
theorem test_withFetchWord_from_reset :
    stepView State.reset 0x3AF8 viewD = some (0x3A, false, 0x0002, .phase .fetch) ∧
      stepView State.reset 0x8030 viewD = some (0x00, false, 0x0080, .phase .fetch) := by decide
theorem test_first_run : callView .run State.reset (fun t => (t.cs, t.pc, t.started)) = some (.phase .fetch, 0x0000, true) := by decide
theorem test_fetch_latches :
    callView .tick ((harness 0x11 false 0x4B).memWrite 0x0100 0xC5) (fun t => (t.cs, t.i, t.n, t.pc)) =
      some (.phase .execute, 12, 5, 0x0101) := by decide
theorem test_pause : callView .pause (harness 0x11 false 0x4B) (fun t => (t.cs, t.pc)) = some (.pause .fetch, 0x0100) := by decide
theorem test_run_from_pause_ticks :
    callView .run ((harness 0x11 false 0x4B).freeze .fetch) (fun t => (t.cs, t.pc)) = some (.phase .execute, 0x0101) := by decide
theorem test_run_of_paused_reset_stays_reset : callView .run (State.reset.freeze .reset) (fun t => t.cs) = some (.phase .reset) := by decide
theorem test_reset_keeps_selectors :
    callView .reset (((harness 0x55 true 0x4B).setP 7).setQ true) (fun t => (t.cs, t.d, [t.p, t.x], t.reg 0, [t.df, t.q])) =
      some (.phase .reset, 0x55, [7, 2], 0x0100, [true, false]) := by decide

/-- The pair (C, 5) latched, its opcode fetched from 0202 through `R[3]` (vector F1). -/
def failing : State :=
  State.setReg { State.reset with cs := .phase .execute, i := 12, n := 5, p := 3, d := 0x42, started := true } 3 0x0203

theorem test_decode_failure_reported :
    callView .tick failing (fun t => (t.report, t.fault, t.cs, t.pc)) =
      some (some (.decodeFailure ⟨12, 5, 0x0202⟩), some ⟨12, 5, 0x0202⟩, .phase .execute, 0x0203) := by decide
theorem test_late_load_refused :
    (match step { failing with pending := [.load 0 0] } with
      | .refused .loadAfterFirstRun => true
      | _ => false) = true := by decide
theorem test_set_flag_and_bus :
    callView (.setFlag 4 1) State.reset (fun t => (t.ef3, t.ef4, t.report)) = some (false, true, none) ∧
      callView (.setFlag 5 1) State.reset (fun t => t.report) = some (some .invalidFlagId) ∧
      callView (.setBus 0x100) State.reset (fun t => (t.bus, t.report)) = some (0x00, some .invalidStimulusValue) ∧
      callView (.setBus 0xFF) State.reset (fun t => t.bus) = some 0xFF := by decide
theorem test_load :
    callView (.load 0xFFFF 0x99) State.reset (fun t => (t.memRead 0xFFFF, t.report)) = some (0x99, none) ∧
      callView (.load 0x10000 0x99) State.reset (fun t => (t.mem, t.report)) = some ([], some .invalidLoadAddress) := by decide

/-! ## Witnesses: a state and operands that meet each statement's hypotheses together, at the ends of their ranges -/

/-- A machine about to run an instruction: the harness with `op` latched from 0100 and `v` after it. -/
def ready (op v : Byte) : State := (harness 0x3A true 0x4B).placeFetched op v

/-- A machine about to fetch `op` from 0100, `v` after it. -/
def toFetch (op v : Byte) : State := ((harness 0x3A true 0x4B).memWrite 0x0100 op).memWrite 0x0101 v

theorem witness_WriteSetsOneCell : Memory.wf (harness 0x3A true 0x4B).mem = true ∧ (harness 0x3A true 0x4B).mem ≠ [] := by decide
theorem witness_DecodeInvertsEncode :
    (Instr.ldn 15).wellFormed = true ∧ (Instr.ldn 15).availableIn false = true ∧ (Instr.out 1).wellFormed = true ∧
      (Instr.out 1).availableIn true = true := by decide
theorem witness_EncodeInvertsDecode : decode true [0x3A, 0x0D, 0x84] = .ok (.bnz 0x0D, [0x84]) := by decide
theorem witness_FailsExactlyOnUndefinedBytes :
    failing.cs = .phase .execute ∧ failing.branchIoExt = false ∧ UndefinedInBase (opcodeByte failing.i failing.n) ∧
      (ready 0x00 0x00).cs = .phase .execute ∧ ¬UndefinedInBase (opcodeByte (ready 0x00 0x00).i (ready 0x00 0x00).n) ∧
      (branchHarness true |>.placeFetched 0x68 0x00).branchIoExt = true ∧ UndefinedInExt 0x68 ∧ ¬UndefinedInExt 0x69 := by decide
theorem witness_StepRunsLatchedInstruction :
    (ready 0xF8 0x3A).nextCall = .tick ∧ (ready 0xF8 0x3A).cs = .phase .execute ∧
      decode (ready 0xF8 0x3A).branchIoExt [opcodeByte (ready 0xF8 0x3A).i (ready 0xF8 0x3A).n, (ready 0xF8 0x3A).operandByte] =
        .ok (.ldi 0x3A, []) := by decide
theorem witness_TwoStepsRunTheInstructionAtPc :
    (toFetch 0xF8 0x3A).nextCall = .tick ∧ (toFetch 0xF8 0x3A).takeCall.nextCall = .tick ∧ (toFetch 0xF8 0x3A).cs = .phase .fetch ∧
      decode (toFetch 0xF8 0x3A).branchIoExt [(toFetch 0xF8 0x3A).memRead (toFetch 0xF8 0x3A).pc,
        (toFetch 0xF8 0x3A).memRead ((toFetch 0xF8 0x3A).pc + 1)] = .ok (.ldi 0x3A, []) := by decide
theorem witness_FetchTickLatchesOpcode : (toFetch 0x83 0x00).cs = .phase .fetch := by decide
theorem witness_ResetEventLeaves :
    State.reset.cs = .phase .reset ∧ HostCall.tick ≠ .run ∧ HostCall.tick ≠ .pause ∧ ∃ t, perform .tick State.reset = .next t :=
  ⟨by decide, by decide, by decide, _, rfl⟩
theorem witness_InitTickClears : ((harness 0x3A true 0x4B).goto .init).cs = .phase .init := by decide
theorem witness_RunEventTable :
    State.reset.cs = .phase .reset ∧ ((harness 0x3A true 0x4B).goto .init).cs = .phase .init ∧
      (harness 0x3A true 0x4B).cs = .phase .fetch ∧ failing.cs = .phase .execute ∧
      (failing.goto .forceExecute).cs = .phase .forceExecute ∧ (failing.freeze .execute).cs = .pause .execute := by decide
theorem witness_PauseFreezes : failing.cs = .phase .execute ∧ (failing.freeze .fetch).cs = .pause .fetch := by decide
theorem witness_PauseThenRunIsTick : (ready 0x7B 0x00).cs = .phase .execute ∧ (toFetch 0x7B 0x00).cs = .phase .fetch := by decide
theorem witness_DecodeFailureChangesNothing :
    failing.cs = .phase .execute ∧ failing.latchedInstr = none ∧ failing.fault = none ∧
      ({ failing with fault := some ⟨4, 0, 0x0001⟩ }).latchedInstr = none := by decide
theorem witness_FailureLastsUntilReset :
    ({ failing with pending := [.tick, .pause, .run, .setFlag 1 1] }).Failing ∧
      HostCall.reset ∉ ({ failing with pending := [.tick, .pause, .run, .setFlag 1 1] }).pending ∧ failing.started = true ∧
      ∃ t, Sys2Proof.core.run 5 { failing with pending := [.tick, .pause, .run, .setFlag 1 1] } = .next t :=
  ⟨by decide, by decide, by decide, _, rfl⟩
theorem witness_FaultRecordIsSticky :
    (∃ t, step failing = .next t ∧ failing.fault = none ∧ t.fault = some ⟨12, 5, 0x0202⟩) ∧
      ∃ t, step { failing with fault := some ⟨4, 0, 0x0001⟩ } = .next t :=
  ⟨⟨_, rfl, by decide, by decide⟩, _, rfl⟩
theorem witness_PcAdvancesByLength :
    (toFetch 0xF8 0x3A).cs = .phase .fetch ∧
      decode false [(toFetch 0xF8 0x3A).memRead (toFetch 0xF8 0x3A).pc, (toFetch 0xF8 0x3A).memRead ((toFetch 0xF8 0x3A).pc + 1)] =
        .ok (.ldi 0x3A, []) ∧ writesPc (.ldi 0x3A) (toFetch 0xF8 0x3A) = false := by decide
theorem witness_PcAdvancesByLength_nop_and_idl :
    decode false [(toFetch 0xC4 0x00).memRead (toFetch 0xC4 0x00).pc, (toFetch 0xC4 0x00).memRead ((toFetch 0xC4 0x00).pc + 1)] =
        .ok (.nop, [0x00]) ∧ writesPc .nop (toFetch 0xC4 0x00) = false ∧
      decode false [(toFetch 0x00 0x33).memRead (toFetch 0x00 0x33).pc, (toFetch 0x00 0x33).memRead ((toFetch 0x00 0x33).pc + 1)] =
        .ok (.idl, [0x33]) ∧ writesPc .idl (toFetch 0x00 0x33) = false ∧
      (toFetch 0xC4 0x00).cs = .phase .fetch ∧
      (toFetch 0x00 0x33).cs = .phase .fetch := by decide
theorem witness_IdleRepeatsForEver :
    (ready 0x00 0x5A).cs = .phase .execute ∧ (ready 0x00 0x5A).i = 0 ∧
      (ready 0x00 0x5A).n = 0 := by decide
theorem witness_StepKeepsInv : (ready 0x73 0x00).Inv ∧ ∃ t, step (ready 0x73 0x00) = .next t := ⟨by decide, _, rfl⟩
theorem witness_StepKeepsBaseQuiet : (ready 0x73 0x00).BaseQuiet ∧ ∃ t, step (ready 0x73 0x00) = .next t := ⟨by decide, _, rfl⟩
theorem witness_OnlyNamedInstructionsWrite : ∃ t, exec (.sep 3) (ready 0xD3 0x00) = .next t := ⟨_, rfl⟩
theorem witness_BaseProfileIgnoresFlags :
    (ready 0xF4 0x00).branchIoExt = false ∧ HostCall.run ∈ [HostCall.tick, .reset, .run, .pause] := by decide
theorem witness_StoreIsSeenByNextFetch : Memory.wf (ready 0x50 0x00).mem = true := by decide
theorem witness_LdnLoadsViaN : (1 : Nibble) ≠ 0 ∧ (15 : Nibble) ≠ 0 := by decide
theorem witness_ImmFetchReadsAtPc :
    (toFetch 0xF8 0x3A).cs = .phase .fetch ∧
      (ready 0xF8 0x3A).latchedInstr = some (.ldi (ready 0xF8 0x3A).operandByte) ∧
      (ready 0x7F 0x7F).latchedInstr = some (.smbi (ready 0x7F 0x7F).operandByte) ∧
      Instr.ldi ∈ [Instr.ldi, .adi, .adci, .sdi, .sdbi, .smi, .smbi, .ori, .ani, .xri] ∧
      Instr.smbi ∈ [Instr.ldi, .adi, .adci, .sdi, .sdbi, .smi, .smbi, .ori, .ani, .xri] :=
  ⟨by decide, by decide, by decide, by simp, by simp⟩
theorem witness_StrStoresViaN : Memory.wf (ready 0x53 0x00).mem = true := by decide
theorem witness_StxdStoresAndDecrements : Memory.wf (ready 0x73 0x00).mem = true := by decide
theorem witness_NopBurnsOneTick : ((ready 0xC4 0x00).goto .forceExecute).cs = .phase .forceExecute := by decide
theorem witness_BranchesOnQDAndDf :
    (branchHarness true).q = true ∧ (branchHarness true).d = 0x00 ∧ (branchHarness true).df = true ∧
      (branchHarness false).q = false ∧ (branchHarness false).d ≠ 0x00 ∧ (branchHarness false).df = false := by decide
theorem witness_BranchesOnExternalFlags :
    (branchHarness true).ef1 = true ∧ (branchHarness true).ef2 = true ∧ (branchHarness true).ef3 = true ∧
      (branchHarness true).ef4 = true ∧ (branchHarness false).ef1 = false ∧ (branchHarness false).ef2 = false ∧
      (branchHarness false).ef3 = false ∧ (branchHarness false).ef4 = false := by decide
theorem witness_OutDrivesBusAndLines : (1 : BitVec 3) ≠ 0 ∧ (7 : BitVec 3) ≠ 0 := by decide
theorem witness_InpReadsBusAndShowsDevice : (7 : BitVec 3) ≠ 0 ∧ Memory.wf (ready 0x6F 0x00).mem = true := by decide
theorem witness_LoadOnlyBeforeFirstRun :
    Memory.wf State.reset.mem = true ∧ State.reset.started = false ∧ 65535 < 65536 ∧ 65536 ≤ 65536 ∧
      Memory.wf failing.mem = true ∧ failing.started = true := by decide
theorem witness_StimuliAreChecked :
    0 ∉ [1, 2, 3, 4] ∧ 5 ∉ [1, 2, 3, 4] ∧ 4 ∈ [1, 2, 3, 4] ∧ 1 < 2 ∧ 1 ≤ 1 ∧ 0xFF ≤ 0xFF ∧ 0xFF < 0x100 := by decide

theorem witness_RunEndsAtFirstIdleTick :
    (ready 0x00 0x5A).fault = none ∧ (ready 0x00 0x5A).idlesNext = true ∧
      (∃ t, endOfRun 2 (toFetch 0x00 0x33) = some t) ∧ ({ failing with fault := some ⟨12, 5, 0x0202⟩ }).fault ≠ none :=
  ⟨by decide, by decide, ⟨_, rfl⟩, by decide⟩
theorem test_endOfRun_is_after_the_idle_tick :
    ((endOfRun 1 (toFetch 0x00 0x33)).isSome, (endOfRun 2 (toFetch 0x00 0x33)).map (fun t => (t.cs, t.bus, t.pc))) =
      (false, some (.phase .execute, 0x33, 0x0101)) := by decide
theorem test_endOfRun_none_on_failure : (endOfRun 2 failing).isSome = false := by decide

end Sys2Proof.Tests
end

section
/-! PROOFS. The end of a run (O60): what an Idle Execute tick leaves, that a failure once recorded stays recorded, and where the search
for the end state stops. -/

namespace Sys2Proof.Machine

/-! ## A recorded failure stays recorded -/

/-- A phase's tick records a failure only where none is recorded (R45). -/
theorem phaseTick_keeps_fault {ph : Phase} {s t : State} {f : DecodeFailure} (h : phaseTick ph s = .next t)
    (hf : s.fault = some f) : t.fault = some f := by
  rcases phaseTick_cases h with ⟨-, rfl⟩ | ⟨-, rfl⟩ | ⟨-, rfl⟩ | ⟨ins, -, -, rfl⟩ | ⟨-, -, rfl⟩ | ⟨-, rfl⟩
  case inr.inr.inr.inl =>
    obtain ⟨-, -, -, -, -, -, -, -, -, -, -, hfault, -, -⟩ := after_frame ins s
    exact hfault.trans hf
  all_goals simp [hf]

theorem tick_keeps_fault {s t : State} {f : DecodeFailure} (h : tick s = .next t) (hf : s.fault = some f) : t.fault = some f := by
  rcases tick_cases h with ⟨ph, -, hph⟩ | ⟨prev, -, rfl⟩
  · exact phaseTick_keeps_fault hph hf
  · exact hf

theorem perform_keeps_fault {c : HostCall} {s t : State} {f : DecodeFailure} (h : perform c s = .next t) (hf : s.fault = some f) :
    t.fault = some f := by
  rcases perform_cases h with ⟨u, hu, htick⟩ | ⟨-, -, rfl⟩ | ⟨index, value, -, rfl⟩ | ⟨value, -, rfl⟩ | ⟨addr, value, -, -, rfl⟩
  · refine tick_keeps_fault htick ?_
    rw [eventPrepares_frame hu]
    exact hf
  · exact hf
  · rw [State.hostSetFlag_eq]; exact hf
  · rw [State.hostSetBus_eq]; exact hf
  · rw [State.hostLoad_eq]; exact hf

theorem step_keeps_fault {s t : State} {f : DecodeFailure} (h : step s = .next t) (hf : s.fault = some f) : t.fault = some f :=
  perform_keeps_fault (s := s.takeCall) h hf

/-! ## The Idle Execute tick -/

theorem State.clearReport_of_none {s : State} (h : s.report = none) : s.clearReport = s := by
  rw [State.clearReport, ← h]

/-- An event is the tick on the state it prepares (R121): the converse of `perform_cases`. -/
theorem perform_eq_tick {c : HostCall} {s u : State} (h : EventPrepares s.clearReport c u) : perform c s = tick u := by
  cases h with
  | tick | reset => rfl
  | runReset hcs => simp only [perform, runEvent, hcs]
  | runPhase ph hcs hr hi => cases ph <;> simp_all [perform, runEvent]
  | runPause prev hcs => simp only [perform, runEvent, hcs]
  | pausePhase ph hcs => simp only [perform, pauseEvent, hcs]
  | pausePause prev hcs => simp only [perform, pauseEvent, hcs]

/-- What an Idle Execute tick leaves: select lines low, `M[R[0]]` on `BUS`, Execute again (R122, R160). -/
def State.idleTick (s : State) : State := (s.clearLines.setBus (s.byteVia 0)).goto .execute

theorem tick_idle {s : State} (hcs : s.cs = .phase .execute) (hi : s.i = 0) (hn : s.n = 0) : tick s = .next s.idleTick := by
  have hidl : s.clearLines.latchedInstr = some .idl := State.latchedInstr_idl hi hn
  simp only [tick, hcs, phaseTick, executeTick, hidl]
  rfl

theorem State.idleTick_idempotent (s : State) : s.idleTick.idleTick = s.idleTick := rfl

/-- A core that an Idle Execute tick has left: another one changes nothing. -/
structure State.Idling (t : State) : Prop where
  latchedI : t.i = 0
  latchedN : t.n = 0
  noReport : t.report = none
  settled : t.idleTick = t

theorem State.Idling.cs_eq {t : State} (h : t.Idling) : t.cs = .phase .execute :=
  (congrArg State.cs h.settled).symm

theorem State.Idling.bus_eq {t : State} (h : t.Idling) : t.bus = t.memRead (t.reg 0) :=
  (congrArg State.bus h.settled).symm

theorem State.Idling.perform_tick {t : State} (h : t.Idling) : perform .tick t = .next t :=
  calc perform .tick t = tick t := by rw [perform, State.clearReport_of_none h.noReport]
    _ = .next t.idleTick := tick_idle h.cs_eq h.latchedI h.latchedN
    _ = .next t := by rw [h.settled]

theorem State.Idling.ticks_eq {t : State} (h : t.Idling) (j : Nat) : ticks j t = .next t := by
  induction j with
  | zero => rfl
  | succ j ih => simp only [ticks, h.perform_tick, ih]

/-- A call that `idlesNext` announces is an event that prepares the Execute phase (R121, R130). -/
theorem State.eventPrepares_of_idlesNext {s : State} (h : s.idlesNext = true) :
    ∃ u, EventPrepares s.takeCall.clearReport s.nextCall u ∧ u.cs = .phase .execute := by
  obtain ⟨-, -, ⟨hcall, hcs⟩ | ⟨hcall, hcs⟩ | ⟨hcall, hcs⟩⟩ := s.idlesNext_iff.mp h <;> rw [hcall]
  · exact ⟨_, .tick _, hcs⟩
  · exact ⟨_, .runPhase _ .execute hcs (by simp) (by simp), hcs⟩
  · exact ⟨_, .runPause _ .execute hcs, rfl⟩

/-- The step that `idlesNext` announces leaves the core idling and records no failure (R160). -/
theorem step_of_idlesNext {s : State} (h : s.idlesNext = true) : ∃ t, step s = .next t ∧ t.Idling ∧ t.fault = s.fault := by
  obtain ⟨u, hu, hcs⟩ := State.eventPrepares_of_idlesNext h
  obtain ⟨hi, hn, -⟩ := s.idlesNext_iff.mp h
  have hframe := eventPrepares_frame hu
  have hui : u.i = 0 := by rw [hframe]; exact hi
  have hun : u.n = 0 := by rw [hframe]; exact hn
  have hreport : u.report = none := by rw [hframe]; rfl
  have hfault : u.fault = s.fault := by rw [hframe]; rfl
  exact ⟨u.idleTick, (perform_eq_tick hu).trans (tick_idle hcs hui hun), ⟨hui, hun, hreport, u.idleTick_idempotent⟩, hfault⟩

/-! ## The search for the end state -/

/-- The search answers `t` when its first host call does and was an Idle Execute tick, or when the rest of the run answers it; in both
cases that first call leaves no failure recorded. -/
theorem endOfRun_succ_iff {k : Nat} {s t : State} : endOfRun (k + 1) s = some t ↔
    ∃ u, step s = .next u ∧ u.fault = none ∧ (s.idlesNext = true ∧ u = t ∨ s.idlesNext = false ∧ endOfRun k u = some t) := by
  rw [endOfRun]
  cases hstep : step s with
  | next u => cases u.fault <;> cases s.idlesNext <;> simp
  | fault f => simp
  | refused r => simp

/-- The host call after `j` others is the run's first Idle Execute tick, and it is made in `u`. -/
def IdlesFirstAt (j : Nat) (s u : State) : Prop :=
  Sys2Proof.core.run j s = .next u ∧ u.idlesNext = true ∧
    ∀ (m : Nat) (w : State), m < j → Sys2Proof.core.run m s = .next w → w.idlesNext = false

theorem idlesFirstAt_zero {s : State} (h : s.idlesNext = true) : IdlesFirstAt 0 s s :=
  ⟨rfl, h, fun _ _ hm => absurd hm (Nat.not_lt_zero _)⟩

theorem idlesFirstAt_succ {j : Nat} {s s' u : State} (hstep : step s = .next s') (hs : s.idlesNext = false)
    (h : IdlesFirstAt j s' u) : IdlesFirstAt (j + 1) s u := by
  obtain ⟨hrun, hidle, hbefore⟩ := h
  refine ⟨(run_succ_of_next hstep).trans hrun, hidle, fun m w hm hw => ?_⟩
  cases m with
  | zero => obtain rfl := Host.Outcome.next.inj hw; exact hs
  | succ m => exact hbefore m w (Nat.lt_of_succ_lt_succ hm) ((run_succ_of_next hstep).symm.trans hw)

/-- An end state is what the run's first Idle Execute tick leaves, no failure recorded. -/
theorem endOfRun_idlesFirstAt {k : Nat} {s t : State} (h : endOfRun k s = some t) :
    t.fault = none ∧ ∃ j u, j < k ∧ IdlesFirstAt j s u ∧ step u = .next t := by
  induction k generalizing s with
  | zero => cases h
  | succ k ih =>
    obtain ⟨v, hstep, hfault, ⟨hidle, rfl⟩ | ⟨hnot, hrest⟩⟩ := endOfRun_succ_iff.mp h
    · exact ⟨hfault, 0, s, Nat.succ_pos k, idlesFirstAt_zero hidle, hstep⟩
    · obtain ⟨htfault, j, u, hj, hfirst, hu⟩ := ih hrest
      exact ⟨htfault, j + 1, u, Nat.succ_lt_succ hj, idlesFirstAt_succ hstep hnot hfirst, hu⟩

/-- Following the run further finds the same end state. -/
theorem endOfRun_add {k : Nat} {s t : State} (h : endOfRun k s = some t) (j : Nat) : endOfRun (k + j) s = some t := by
  induction k generalizing s with
  | zero => cases h
  | succ k ih =>
    obtain ⟨v, hstep, hfault, hend | ⟨hnot, hrest⟩⟩ := endOfRun_succ_iff.mp h <;> rw [Nat.succ_add]
    · exact endOfRun_succ_iff.mpr ⟨v, hstep, hfault, .inl hend⟩
    · exact endOfRun_succ_iff.mpr ⟨v, hstep, hfault, .inr ⟨hnot, ih hrest⟩⟩

theorem endOfRun_of_idlesNext {s : State} (hfault : s.fault = none) (h : s.idlesNext = true) (k : Nat) :
    ∃ t, step s = .next t ∧ endOfRun (k + 1) s = some t := by
  obtain ⟨t, hstep, -, hkeep⟩ := step_of_idlesNext h
  exact ⟨t, hstep, endOfRun_succ_iff.mpr ⟨t, hstep, hkeep.trans hfault, .inl ⟨h, rfl⟩⟩⟩

/-- An end state idles: the tick that reached it was an Idle Execute tick. -/
theorem endOfRun_idling {k : Nat} {s t : State} (h : endOfRun k s = some t) : t.Idling := by
  obtain ⟨-, j, u, -, ⟨-, hidle, -⟩, hu⟩ := endOfRun_idlesFirstAt h
  obtain ⟨t', hstep, hidling, -⟩ := step_of_idlesNext hidle
  obtain rfl := Host.Outcome.next.inj (hstep.symm.trans hu)
  exact hidling

theorem endOfRun_of_failed {s : State} (h : s.fault ≠ none) (k : Nat) : endOfRun k s = none := by
  obtain ⟨f, hf⟩ := Option.ne_none_iff_exists'.mp h
  cases k with
  | zero => rfl
  | succ k =>
    refine Option.eq_none_iff_forall_ne_some.mpr fun t ht => ?_
    obtain ⟨u, hstep, hfault, -⟩ := endOfRun_succ_iff.mp ht
    exact nomatch (step_keeps_fault hstep hf).symm.trans hfault

/-- Settles O60: an Idle Execute tick leaves a state that further ticks do not change, and the search stops at the first one. -/
theorem runEndsAtFirstIdleTick : Obligations.RunEndsAtFirstIdleTick := by
  refine ⟨fun k s hfault hidle => endOfRun_of_idlesNext hfault hidle k, fun k s t hend => ?_,
    fun k s hfailed => endOfRun_of_failed hfailed k⟩
  obtain ⟨hfault, j, u, hj, ⟨hrun, hidle, hbefore⟩, hstep⟩ := endOfRun_idlesFirstAt hend
  have hidling := endOfRun_idling hend
  exact ⟨hidling.cs_eq, hidling.latchedI, hidling.latchedN, hidling.bus_eq, hfault, ⟨j, u, hj, hrun, hidle, hstep, hbefore⟩,
    endOfRun_add hend, hidling.ticks_eq⟩

end Sys2Proof.Machine
end

section
/-! PROOFS. The state (spec/10_state.md): the select lines of the base profile (O23), the record of the first failure (O18), who writes
each element (O26), what no instruction reads (O27, O28), the invariants at power-on (O22) and the host's stimuli (O59). -/

namespace Sys2Proof.Machine

/-! ## The select lines in the base profile -/

/-- An instruction that the base machine has latched is none of the optional profile (R99, R300). -/
theorem State.latchedInstr_isExt {s : State} {ins : Instr} (hbase : s.branchIoExt = false) (h : s.latchedInstr = some ins) :
    ins.isExt = false := by
  obtain ⟨-, -, havail⟩ := decodePair_some h
  simpa [hbase, Instr.availableIn] using havail

/-- Only OUT and INP drive the select lines (R32), and both are of the optional profile. -/
theorem after_lines_of_base {ins : Instr} (h : ins.isExt = false) (s : State) :
    (after ins s).n0 = s.n0 ∧ (after ins s).n1 = s.n1 ∧ (after ins s).n2 = s.n2 := by
  cases ins
  case br | bq | bz | bdf | b1 | b2 | b3 | b4 | nbr | bnq | bnz | bnf | bn1 | bn2 | bn3 | bn4 => cases h
  case out | inp => cases h
  all_goals exact ⟨rfl, rfl, rfl⟩

theorem after_baseQuiet {ins : Instr} {s : State} (hs : s.BaseQuiet) (h : ins.isExt = false) : (after ins s).BaseQuiet := by
  obtain ⟨hbase, hn0, hn1, hn2⟩ := hs
  obtain ⟨h0, h1, h2⟩ := after_lines_of_base h s
  obtain ⟨-, -, -, -, -, -, -, -, -, hext, -⟩ := after_frame ins s
  exact ⟨hext.trans hbase, h0.trans hn0, h1.trans hn1, h2.trans hn2⟩

theorem phaseTick_keeps_baseQuiet {ph : Phase} {s t : State} (h : phaseTick ph s = .next t) (hs : s.BaseQuiet) : t.BaseQuiet := by
  rcases phaseTick_cases h with ⟨-, rfl⟩ | ⟨-, rfl⟩ | ⟨-, rfl⟩ | ⟨ins, -, hins, rfl⟩ | ⟨-, -, rfl⟩ | ⟨-, rfl⟩
  case inr.inr.inr.inl => exact after_baseQuiet hs (State.latchedInstr_isExt hs.1 hins)
  all_goals exact hs

/-- The preamble lowers the lines, so a tick needs the base profile alone (R122). -/
theorem tick_baseQuiet {s t : State} (h : tick s = .next t) (hbase : s.branchIoExt = false) : t.BaseQuiet := by
  have hclear : s.clearLines.BaseQuiet := ⟨hbase, rfl, rfl, rfl⟩
  rcases tick_cases h with ⟨ph, -, hph⟩ | ⟨prev, -, rfl⟩
  · exact phaseTick_keeps_baseQuiet hph hclear
  · exact hclear

theorem perform_keeps_baseQuiet {c : HostCall} {s t : State} (h : perform c s = .next t) (hs : s.BaseQuiet) : t.BaseQuiet := by
  rcases perform_cases h with ⟨u, hu, htick⟩ | ⟨-, -, rfl⟩ | ⟨index, value, -, rfl⟩ | ⟨value, -, rfl⟩ | ⟨addr, value, -, -, rfl⟩
  · refine tick_baseQuiet htick ?_
    rw [eventPrepares_frame hu]
    exact hs.1
  · exact hs
  · rw [State.hostSetFlag_eq]; exact hs
  · rw [State.hostSetBus_eq]; exact hs
  · rw [State.hostLoad_eq]; exact hs

/-- Settles O23: a tick ends with the lines low because its preamble lowers them and only the optional profile raises them; every other
host call leaves them. -/
theorem stepKeepsBaseQuiet : Obligations.StepKeepsBaseQuiet := fun s _ hs h =>
  perform_keeps_baseQuiet (s := s.takeCall) h hs

/-! ## The record of the first failure -/

/-- A phase's tick that makes the first record is the one that raised the failure (R135, R401). -/
theorem phaseTick_records {ph : Phase} {s t : State} {f : DecodeFailure} (h : phaseTick ph s = .next t) (hs : s.fault = none)
    (ht : t.fault = some f) : t.report = some (.decodeFailure f) ∧ f = s.decodeFailure := by
  rcases phaseTick_cases h with ⟨-, rfl⟩ | ⟨-, rfl⟩ | ⟨-, rfl⟩ | ⟨ins, -, -, rfl⟩ | ⟨-, -, rfl⟩ | ⟨-, rfl⟩
  case inr.inr.inr.inl =>
    obtain ⟨-, -, -, -, -, -, -, -, -, -, -, hfault, -, -⟩ := after_frame ins s
    exact nomatch hs.symm.trans (hfault.symm.trans ht)
  case inr.inr.inr.inr.inl =>
    have hf : s.decodeFailure = f := by simpa [hs] using ht
    exact ⟨by rw [← hf]; rfl, hf.symm⟩
  all_goals exact nomatch hs.symm.trans ht

theorem tick_records {s t : State} {f : DecodeFailure} (h : tick s = .next t) (hs : s.fault = none) (ht : t.fault = some f) :
    t.report = some (.decodeFailure f) ∧ f = s.decodeFailure := by
  rcases tick_cases h with ⟨ph, -, hph⟩ | ⟨prev, -, rfl⟩
  · exact phaseTick_records (s := s.clearLines) hph hs ht
  · exact nomatch hs.symm.trans ht

theorem perform_records {c : HostCall} {s t : State} {f : DecodeFailure} (h : perform c s = .next t) (hs : s.fault = none)
    (ht : t.fault = some f) : t.report = some (.decodeFailure f) ∧ f = s.decodeFailure := by
  rcases perform_cases h with ⟨u, hu, htick⟩ | ⟨-, -, rfl⟩ | ⟨index, value, -, rfl⟩ | ⟨value, -, rfl⟩ | ⟨addr, value, -, -, rfl⟩
  · have hframe := eventPrepares_frame hu
    have hfault : u.fault = none := by rw [hframe]; exact hs
    have hpair : u.decodeFailure = s.decodeFailure := by rw [hframe]; rfl
    rw [← hpair]
    exact tick_records htick hfault ht
  · exact nomatch hs.symm.trans ht
  · rw [State.hostSetFlag_eq] at ht; exact nomatch hs.symm.trans ht
  · rw [State.hostSetBus_eq] at ht; exact nomatch hs.symm.trans ht
  · rw [State.hostLoad_eq] at ht; exact nomatch hs.symm.trans ht

/-- Settles O18: no host call clears the record, and only a failing Execute tick makes one. -/
theorem faultRecordIsSticky : Obligations.FaultRecordIsSticky := fun s _ h =>
  ⟨fun _ hf => step_keeps_fault h hf, fun _ hs ht => perform_records (s := s.takeCall) h hs ht⟩

/-! ## Who writes what -/

theorem State.shortBranch_p (s : State) (cond : Bool) (aa : Byte) : (s.shortBranch cond aa).p = s.p := by
  rw [State.shortBranch_eq]

theorem State.shortBranch_x (s : State) (cond : Bool) (aa : Byte) : (s.shortBranch cond aa).x = s.x := by
  rw [State.shortBranch_eq]

theorem State.shortBranch_q (s : State) (cond : Bool) (aa : Byte) : (s.shortBranch cond aa).q = s.q := by
  rw [State.shortBranch_eq]

theorem State.shortBranch_bus (s : State) (cond : Bool) (aa : Byte) : (s.shortBranch cond aa).bus = s.bus := by
  rw [State.shortBranch_eq]

theorem State.shortBranch_mem (s : State) (cond : Bool) (aa : Byte) : (s.shortBranch cond aa).mem = s.mem := by
  rw [State.shortBranch_eq]

theorem State.shortBranch_df (s : State) (cond : Bool) (aa : Byte) : (s.shortBranch cond aa).df = s.df := by
  rw [State.shortBranch_eq]

/-- Settles O26: a named writer is one of the instructions listed for its element, and every other instruction leaves all six. -/
theorem onlyNamedInstructionsWrite : Obligations.OnlyNamedInstructionsWrite := by
  intro ins s t h
  obtain rfl := after_of_exec h
  cases ins
  case sep n => exact ⟨.inr ⟨n, rfl⟩, .inl rfl, .inl rfl, .inl rfl, .inl rfl, .inl rfl⟩
  case sex n => exact ⟨.inl rfl, .inr ⟨n, rfl⟩, .inl rfl, .inl rfl, .inl rfl, .inl rfl⟩
  case seq | req => exact ⟨.inl rfl, .inl rfl, .inr (by simp), .inl rfl, .inl rfl, .inl rfl⟩
  case idl | out => exact ⟨.inl rfl, .inl rfl, .inl rfl, .inr (by simp), .inl rfl, .inl rfl⟩
  case stxd | str | inp => exact ⟨.inl rfl, .inl rfl, .inl rfl, .inl rfl, .inr (by simp), .inl rfl⟩
  case add | adc | sd | sdb | sm | smb | shr | shrc | shl | shlc =>
    exact ⟨.inl rfl, .inl rfl, .inl rfl, .inl rfl, .inl rfl, .inr (.inl (by simp))⟩
  case adi v | adci v | sdi v | sdbi v | smi v | smbi v =>
    exact ⟨.inl rfl, .inl rfl, .inl rfl, .inl rfl, .inl rfl, .inr (.inr ⟨v, by simp⟩)⟩
  case br | bq | bz | bdf | b1 | b2 | b3 | b4 | nbr | bnq | bnz | bnf | bn1 | bn2 | bn3 | bn4 =>
    exact ⟨.inl (s.shortBranch_p _ _), .inl (s.shortBranch_x _ _), .inl (s.shortBranch_q _ _), .inl (s.shortBranch_bus _ _),
      .inl (s.shortBranch_mem _ _), .inl (s.shortBranch_df _ _)⟩
  all_goals exact ⟨.inl rfl, .inl rfl, .inl rfl, .inl rfl, .inl rfl, .inl rfl⟩

/-! ## The inert elements -/

/-- The state with other values of `B`, `T` and `IE` (R22, R27, R28). -/
def State.withInert (s : State) (b t : Byte) (ie : Bool) : State := { s with b := b, t := t, ie := ie }

/-- Neither way a short branch goes reads or writes an inert element. -/
theorem State.shortBranch_withInert (s : State) (b t : Byte) (ie cond : Bool) (aa : Byte) :
    (s.withInert b t ie).shortBranch cond aa = (s.shortBranch cond aa).withInert b t ie := by
  cases cond <;> rfl

theorem exec_withInert (ins : Instr) (s : State) (b t : Byte) (ie : Bool) :
    exec ins (s.withInert b t ie) = mapNext (·.withInert b t ie) (exec ins s) := by
  cases ins
  case br | bq | bz | bdf | b1 | b2 | b3 | b4 | nbr | bnq | bnz | bnf | bn1 | bn2 | bn3 | bn4 =>
    exact congrArg _ (s.shortBranch_withInert b t ie _ _)
  all_goals rfl

/-- Settles O27, by cases on the instruction: each one's rule commutes with writing `B`, `T` and `IE`. -/
theorem inertElementsAreUnreachable : Obligations.InertElementsAreUnreachable := exec_withInert

/-! ## The external flags in the base profile -/

/-- The state with other external flags (R31). -/
def State.withFlags (s : State) (e1 e2 e3 e4 : Bool) : State := { s with ef1 := e1, ef2 := e2, ef3 := e3, ef4 := e4 }

/-- Only the short branches read a flag, and they are of the optional profile (R300, R307). -/
theorem exec_withFlags {ins : Instr} (h : ins.isExt = false) (s : State) (e1 e2 e3 e4 : Bool) :
    exec ins (s.withFlags e1 e2 e3 e4) = mapNext (·.withFlags e1 e2 e3 e4) (exec ins s) := by
  cases ins
  case br | bq | bz | bdf | b1 | b2 | b3 | b4 | nbr | bnq | bnz | bnf | bn1 | bn2 | bn3 | bn4 => cases h
  all_goals rfl

theorem State.latchedInstr_withFlags (s : State) (e1 e2 e3 e4 : Bool) : (s.withFlags e1 e2 e3 e4).latchedInstr = s.latchedInstr :=
  rfl

section
variable {s : State} (hbase : s.branchIoExt = false) (e1 e2 e3 e4 : Bool)
include hbase

theorem executeTick_withFlags : executeTick (s.withFlags e1 e2 e3 e4) = mapNext (·.withFlags e1 e2 e3 e4) (executeTick s) := by
  unfold executeTick
  rw [State.latchedInstr_withFlags]
  split
  · next ins hins => exact exec_withFlags (State.latchedInstr_isExt hbase hins) s e1 e2 e3 e4
  · rfl

theorem phaseTick_withFlags (ph : Phase) :
    phaseTick ph (s.withFlags e1 e2 e3 e4) = mapNext (·.withFlags e1 e2 e3 e4) (phaseTick ph s) := by
  cases ph with
  | execute => exact executeTick_withFlags hbase e1 e2 e3 e4
  | reset | init | fetch | forceExecute => rfl

theorem tick_withFlags : tick (s.withFlags e1 e2 e3 e4) = mapNext (·.withFlags e1 e2 e3 e4) (tick s) := by
  have hcs : (s.withFlags e1 e2 e3 e4).cs = s.cs := rfl
  unfold tick
  rw [hcs]
  cases s.cs with
  | phase ph => exact phaseTick_withFlags (s := s.clearLines) hbase e1 e2 e3 e4 ph
  | pause prev => rfl

theorem runEvent_withFlags : runEvent (s.withFlags e1 e2 e3 e4) = mapNext (·.withFlags e1 e2 e3 e4) (runEvent s) := by
  have hcs : (s.withFlags e1 e2 e3 e4).cs = s.cs := rfl
  unfold runEvent
  rw [hcs]
  cases s.cs with
  | phase ph =>
    cases ph with
    | reset => exact tick_withFlags (s := s.markStarted.goto .init) hbase e1 e2 e3 e4
    | init => rfl
    | fetch | execute | forceExecute => exact tick_withFlags (s := s.markStarted) hbase e1 e2 e3 e4
  | pause prev => exact tick_withFlags (s := s.markStarted.goto prev) hbase e1 e2 e3 e4

theorem pauseEvent_withFlags : pauseEvent (s.withFlags e1 e2 e3 e4) = mapNext (·.withFlags e1 e2 e3 e4) (pauseEvent s) := by
  have hcs : (s.withFlags e1 e2 e3 e4).cs = s.cs := rfl
  unfold pauseEvent
  rw [hcs]
  cases s.cs with
  | phase ph => exact tick_withFlags (s := s.freeze ph) hbase e1 e2 e3 e4
  | pause prev => exact tick_withFlags hbase e1 e2 e3 e4

end

/-- Settles O28: each event prepares a state without looking at the flags and runs a tick, whose instruction, being of the base profile,
does not look at them either. -/
theorem baseProfileIgnoresFlags : Obligations.BaseProfileIgnoresFlags := by
  intro s e1 e2 e3 e4 c hbase hc
  have hclear : s.clearReport.branchIoExt = false := hbase
  cases c with
  | tick => exact tick_withFlags hclear e1 e2 e3 e4
  | reset => exact tick_withFlags (s := s.clearReport.goto .reset) hbase e1 e2 e3 e4
  | run => exact runEvent_withFlags hclear e1 e2 e3 e4
  | pause => exact pauseEvent_withFlags hclear e1 e2 e3 e4
  | setFlag | setBus | load => simp at hc

/-! ## The invariants at power-on -/

/-- The power-on control state is Reset (R34, R43). -/
theorem reset_legalControl : State.reset.LegalControl := ⟨nofun, nofun⟩

/-- Settles O22, from the reset value of each element. -/
theorem resetHasInvariants : Obligations.ResetHasInvariants :=
  ⟨⟨reset_memory_wf, ⟨rfl, rfl, rfl⟩, reset_legalControl⟩, rfl, rfl, rfl, rfl⟩

/-! ## The host's stimuli -/

theorem flagIndex_mem_iff (index : Nat) : index ∈ [1, 2, 3, 4] ↔ ¬(index = 0 ∨ Config.flagCount < index) := by
  simp only [List.mem_cons, List.not_mem_nil, or_false, Config.flagCount]
  omega

theorem State.hostSetFlag_of_not_mem (s : State) {index : Nat} (h : index ∉ [1, 2, 3, 4]) (value : Nat) :
    s.hostSetFlag index value = { s with report := some .invalidFlagId } :=
  if_pos (not_not.mp (mt (flagIndex_mem_iff index).mpr h))

theorem State.hostSetFlag_of_mem_of_lt (s : State) {index value : Nat} (h : index ∈ [1, 2, 3, 4]) (hv : 1 < value) :
    s.hostSetFlag index value = { s with report := some .invalidStimulusValue } :=
  (if_neg ((flagIndex_mem_iff index).mp h)).trans (if_pos hv)

/-- A legal index and value write the flag of that index alone (R31). -/
theorem State.hostSetFlag_of_le (s : State) {value : Nat} (hv : value ≤ 1) :
    s.hostSetFlag 1 value = { s with ef1 := value = 1 } ∧ s.hostSetFlag 2 value = { s with ef2 := value = 1 } ∧
      s.hostSetFlag 3 value = { s with ef3 := value = 1 } ∧ s.hostSetFlag 4 value = { s with ef4 := value = 1 } :=
  have hv' : ¬1 < value := Nat.not_lt.mpr hv
  ⟨if_neg hv', if_neg hv', if_neg hv', if_neg hv'⟩

theorem State.hostSetBus_of_le (s : State) {value : Nat} (hv : value ≤ 0xFF) :
    s.hostSetBus value = { s with bus := BitVec.ofNat 8 value } :=
  if_neg (Nat.not_lt.mpr hv)

theorem State.hostSetBus_of_lt (s : State) {value : Nat} (hv : 0xFF < value) :
    s.hostSetBus value = { s with report := some .invalidStimulusValue } :=
  if_pos hv

/-- Settles O59, from what each stimulus does on a state whose report has been cleared. -/
theorem stimuliAreChecked : Obligations.StimuliAreChecked := by
  intro s value
  refine ⟨fun index h => ?_, fun index h hv => ?_, fun hv => ?_, fun hv => ?_, fun hv => ?_⟩
  · exact congrArg _ (s.clearReport.hostSetFlag_of_not_mem h value)
  · exact congrArg _ (s.clearReport.hostSetFlag_of_mem_of_lt h hv)
  · obtain ⟨h1, h2, h3, h4⟩ := s.clearReport.hostSetFlag_of_le hv
    exact ⟨congrArg _ h1, congrArg _ h2, congrArg _ h3, congrArg _ h4⟩
  · exact congrArg _ (s.clearReport.hostSetBus_of_le hv)
  · exact congrArg _ (s.clearReport.hostSetBus_of_lt hv)

end Sys2Proof.Machine
end

section
/-! PROOFS. Memory (spec/20_memory.md): what every step keeps (O21), a byte written (O2), a store through the program counter (O29) and
the load port (O58). -/

namespace Sys2Proof.Machine

/-! ## What every step keeps -/

/-- The control state an instruction selects: Fetch, but ForceExecute for NOP and Execute for IDL (R134). -/
theorem after_cs (ins : Instr) (s : State) :
    (after ins s).cs = (if ins = .nop then .phase .forceExecute else if ins = .idl then .phase .execute else .phase .fetch) := by
  cases ins <;> rfl

theorem after_legalControl (ins : Instr) (s : State) : (after ins s).LegalControl := by
  unfold State.LegalControl
  rw [after_cs]
  split
  · exact ⟨nofun, nofun⟩
  · split <;> exact ⟨nofun, nofun⟩

/-- The three stores write memory as `memWrite` does, and no other instruction writes it (R73). -/
theorem after_memory_wf {s : State} (hm : Memory.wf s.mem = true) (ins : Instr) : Memory.wf (after ins s).mem = true := by
  obtain ⟨-, -, -, -, hmem, -⟩ := onlyNamedInstructionsWrite ins s _ (exec_eq_after ins s)
  rcases hmem with hsame | rfl | ⟨n, rfl⟩ | ⟨dev, rfl⟩
  · rwa [hsame]
  · exact State.memWrite_wf hm s.dp s.d
  · exact State.memWrite_wf hm (s.reg n) s.d
  · exact State.memWrite_wf hm s.dp s.bus

theorem after_inert {s : State} (hs : s.Inert) (ins : Instr) : (after ins s).Inert := by
  obtain ⟨hb, ht, hie⟩ := hs
  obtain ⟨hb', ht', hie', -⟩ := after_frame ins s
  exact ⟨hb'.trans hb, ht'.trans ht, hie'.trans hie⟩

/-- Each phase's tick selects a legal control state of its own, but a failing Execute tick, which stays in Execute (R135): so Init may be
the phase that runs. -/
theorem phaseTick_inv {ph : Phase} {s t : State} (h : phaseTick ph s = .next t) (hcs : s.cs = .phase ph)
    (hm : Memory.wf s.mem = true) (hs : s.Inert) : t.Inv := by
  rcases phaseTick_cases h with ⟨-, rfl⟩ | ⟨-, rfl⟩ | ⟨-, rfl⟩ | ⟨ins, -, -, rfl⟩ | ⟨rfl, -, rfl⟩ | ⟨-, rfl⟩
  · obtain ⟨hb, ht, -⟩ := hs
    exact ⟨hm, ⟨hb, ht, rfl⟩, nofun, nofun⟩
  · exact ⟨hm, hs, nofun, nofun⟩
  · exact ⟨hm, hs, nofun, nofun⟩
  · exact ⟨after_memory_wf hm ins, after_inert hs ins, after_legalControl ins s⟩
  · exact ⟨hm, hs, by simp [hcs], by simp [hcs]⟩
  · exact ⟨hm, hs, nofun, nofun⟩

theorem tick_inv {s t : State} (h : tick s = .next t) (hcs : s.cs ≠ .pause .init) (hm : Memory.wf s.mem = true) (hs : s.Inert) :
    t.Inv := by
  rcases tick_cases h with ⟨ph, hph, htick⟩ | ⟨prev, hprev, rfl⟩
  · exact phaseTick_inv (s := s.clearLines) htick hph hm hs
  · exact ⟨hm, hs, by simp [hprev], hcs⟩

/-- An event may prepare Init, which its tick leaves again, but never a pause in Init (R34, R130, R131). -/
theorem eventPrepares_cs_ne_pauseInit {s u : State} {c : HostCall} (h : EventPrepares s c u) (hs : s.LegalControl) :
    u.cs ≠ .pause .init := by
  obtain ⟨hphase, hpause⟩ := hs
  cases h with
  | tick => exact hpause
  | reset => exact nofun
  | runReset => exact nofun
  | runPhase => exact hpause
  | runPause => exact nofun
  | pausePhase ph hcs =>
    intro hfrozen
    obtain rfl : ph = .init := Control.pause.inj hfrozen
    exact hphase hcs
  | pausePause => exact hpause

theorem perform_keeps_inv {c : HostCall} {s t : State} (h : perform c s = .next t) (hs : s.Inv) : t.Inv := by
  obtain ⟨hm, hinert, hlegal⟩ := hs
  rcases perform_cases h with ⟨u, hu, htick⟩ | ⟨-, -, rfl⟩ | ⟨index, value, -, rfl⟩ | ⟨value, -, rfl⟩ | ⟨addr, value, -, -, rfl⟩
  · have hframe := eventPrepares_frame hu
    have hmu : Memory.wf u.mem = true := by rw [hframe]; exact hm
    have hinertu : u.Inert := by rw [hframe]; exact hinert
    exact tick_inv htick (eventPrepares_cs_ne_pauseInit hu hlegal) hmu hinertu
  · exact ⟨hm, hinert, hlegal⟩
  · rw [State.hostSetFlag_eq]; exact ⟨hm, hinert, hlegal⟩
  · rw [State.hostSetBus_eq]; exact ⟨hm, hinert, hlegal⟩
  · have hwf := State.hostLoad_wf (s := s.clearReport) hm addr value
    rw [State.hostLoad_eq]
    exact ⟨hwf, hinert, hlegal⟩

/-- Settles O21: a tick needs no more of the control state than that it is no pause in Init, which is what each event prepares; the host's
other calls leave the control state and the inert elements. -/
theorem stepKeepsInv : Obligations.StepKeepsInv := fun s _ hs h => perform_keeps_inv (s := s.takeCall) h hs

/-! ## A byte written -/

/-- Settles O2, from what a read sees after a store. -/
theorem writeSetsOneCell : Obligations.WriteSetsOneCell := fun _ a v hm =>
  ⟨State.memRead_memWrite_same hm a v, fun _ hc => State.memRead_memWrite_other hm hc v, rfl⟩

/-! ## A store through the program counter -/

/-- The tick in Fetch is the fetch of the opcode after the preamble (R122, R125). -/
theorem tick_fetch {s : State} (hcs : s.cs = .phase .fetch) : tick s = .next s.clearLines.fetchTick := by
  simp only [tick, hcs, phaseTick]

theorem State.fetchTick_latches {s : State} {v : Byte} (h : s.memRead s.pc = v) :
    s.fetchTick.i.toNat = v.toNat / 16 ∧ s.fetchTick.n.toNat = v.toNat % 16 := by
  rw [State.fetchTick_i, State.fetchTick_n, h]
  exact ⟨hiNibble_toNat v, loNibble_toNat v⟩

/-- Settles O29: STR P leaves `R[P]` in place, so the Fetch tick reads the byte just stored. -/
theorem storeIsSeenByNextFetch : Obligations.StoreIsSeenByNextFetch := by
  intro s hm
  have hread : (s.memWrite s.pc s.d).memRead s.pc = s.d := State.memRead_memWrite_same hm s.pc s.d
  exact ⟨(s.memWrite s.pc s.d).goto .fetch, _, rfl, tick_fetch rfl, State.fetchTick_latches hread⟩

/-! ## The load port -/

/-- A load inside memory is a store at the address as a word (R72). -/
theorem State.hostLoad_of_lt (s : State) {a : Nat} (h : a < 65536) (v : Byte) : s.hostLoad a v = s.memWrite (BitVec.ofNat 16 a) v := by
  have haddr : (BitVec.ofNat 16 a).toNat = a := by rw [BitVec.toNat_ofNat, Nat.mod_eq_of_lt h]
  rw [State.memWrite, haddr]
  exact if_pos h

theorem State.hostLoad_of_le (s : State) {a : Nat} (h : 65536 ≤ a) (v : Byte) :
    s.hostLoad a v = { s with report := some .invalidLoadAddress } :=
  if_neg (Nat.not_lt.mpr h)

theorem perform_load_of_not_started {s : State} (h : s.started = false) (a : Nat) (v : Byte) :
    perform (.load a v) s = .next (s.clearReport.hostLoad a v) :=
  if_neg (by simp [h])

theorem perform_load_of_started {s : State} (h : s.started = true) (a : Nat) (v : Byte) :
    perform (.load a v) s = .refused .loadAfterFirstRun :=
  if_pos h

/-- Settles O58: before the first `run` the load is the host's store on a state whose report has been cleared, after it a refusal. -/
theorem loadOnlyBeforeFirstRun : Obligations.LoadOnlyBeforeFirstRun := by
  intro s a v hm
  refine ⟨fun hs ha => ?_, fun hs ha => ?_, fun hs => perform_load_of_started hs a v⟩
  · refine ⟨s.clearReport.memWrite (BitVec.ofNat 16 a) v, ?_, ?_, fun c hc => ?_, rfl⟩
    · rw [perform_load_of_not_started hs, State.hostLoad_of_lt _ ha]
    · exact State.memRead_memWrite_same (s := s.clearReport) hm _ v
    · exact State.memRead_memWrite_other (s := s.clearReport) hm hc v
  · rw [perform_load_of_not_started hs, State.hostLoad_of_le _ ha]
    rfl

end Sys2Proof.Machine
end

section
/-! PROOFS. The encoding (spec/30_encoding.md): the decoder and the encoder undo each other (O3, O4), the bytes on which an Execute tick
fails (O6) and the sample words (O5). -/

namespace Sys2Proof.Machine

/-! ## The operand byte -/

/-- Class 7 takes the operand byte up in the sub-opcodes C, D and F alone (R91, R95). -/
theorem decodeClass7_operand_irrelevant {n : Nibble} (h : needsOperand 0x7 n = false) (v w : Byte) :
    decodeClass7 n v = decodeClass7 n w := by
  unfold decodeClass7
  split
  case h_9 hn | h_10 hn | h_12 hn => all_goals simp [needsOperand, ← BitVec.toNat_inj, hn] at h
  all_goals rfl

/-- Class F takes the operand byte up in the sub-opcodes 8 to D and F alone (R91, R95). -/
theorem decodeClassF_operand_irrelevant {n : Nibble} (h : needsOperand 0xF n = false) (v w : Byte) :
    decodeClassF n v = decodeClassF n w := by
  have hlt := n.isLt
  unfold decodeClassF
  split
  case h_9 hn | h_10 hn | h_11 hn | h_12 hn | h_13 hn | h_14 hn =>
    all_goals simp [needsOperand, ← BitVec.toNat_inj, hn] at h
  case h_16 =>
    have hn : n.toNat = 15 := by simp only [imp_false] at *; omega
    simp [needsOperand, ← BitVec.toNat_inj, hn] at h
  all_goals rfl

/-- An opcode that is not followed by an operand byte has an entry that takes none up (R91, R93). -/
theorem decodePair_operand_irrelevant {i n : Nibble} (h : needsOperand i n = false) (ext : Bool) (v w : Byte) :
    decodePair ext i n v = decodePair ext i n w := by
  unfold decodePair
  split
  case h_4 hi => simp [needsOperand, hi] at h
  case h_7 hi =>
    obtain rfl : i = 0x7 := BitVec.eq_of_toNat_eq hi
    exact decodeClass7_operand_irrelevant h v w
  case h_15 hi =>
    obtain rfl : i = 0xF := BitVec.eq_of_toNat_eq hi
    exact congrArg some (decodeClassF_operand_irrelevant h v w)
  all_goals rfl

/-! ## The decoder and the table -/

theorem decode_of_operand {ext : Bool} {i n : Nibble} {v : Byte} {ins : Instr} (h : decodePair ext i n v = some ins)
    (hop : needsOperand i n = true) (rest : List Byte) : decode ext (opcodeByte i n :: v :: rest) = .ok (ins, rest) := by
  simp only [decode, hiNibble_opcodeByte, loNibble_opcodeByte, List.headD_cons, h, if_pos hop]

/-- A one-byte instruction is decoded whatever follows it, though the table is asked with the next byte (R91, R93). -/
theorem decode_of_noOperand {ext : Bool} {i n : Nibble} {v : Byte} {ins : Instr} (h : decodePair ext i n v = some ins)
    (hop : needsOperand i n = false) (rest : List Byte) : decode ext (opcodeByte i n :: rest) = .ok (ins, rest) := by
  have hentry : decodePair ext i n (rest.headD 0) = some ins := (decodePair_operand_irrelevant hop ext _ v).trans h
  have hnot : ¬needsOperand i n = true := by simp [hop]
  simp only [decode, hiNibble_opcodeByte, loNibble_opcodeByte, hentry, if_neg hnot]

/-- The decoder reads an entry of the table back from the entry's encoding. -/
theorem decode_encode_of_entry {ext : Bool} {i n : Nibble} {v : Byte} {ins : Instr} (h : decodePair ext i n v = some ins)
    (rest : List Byte) : decode ext (encode ins ++ rest) = .ok (ins, rest) := by
  obtain ⟨hbytes, -, -⟩ := decodePair_some h
  rw [hbytes]
  cases hop : needsOperand i n with
  | true => exact decode_of_operand h hop rest
  | false => exact decode_of_noOperand h hop rest

/-- What the decoder accepts: an opcode byte with an entry in the table, then its operand byte where it needs one (R91, R93, R96). -/
theorem decode_ok_cases {ext : Bool} {bytes rest : List Byte} {ins : Instr} (h : decode ext bytes = .ok (ins, rest)) :
    ∃ i n v, decodePair ext i n v = some ins ∧ bytes = opcodeByte i n :: (if needsOperand i n then [v] else []) ++ rest := by
  cases bytes with
  | nil => cases h
  | cons b tail =>
    refine ⟨hiNibble b, loNibble b, tail.headD 0, ?_⟩
    rw [opcodeByte_nibbles]
    simp only [decode] at h
    split at h
    · cases h
    · next entry hentry =>
      split at h
      · next hop =>
        cases tail with
        | nil => cases h
        | cons v tail => cases h; exact ⟨hentry, by simp [hop]⟩
      · next hop => cases h; exact ⟨hentry, by simp [hop]⟩

/-! ## An instruction's entry in the table -/

/-- With the optional profile on, a byte of class 6 has the entry its low nibble is looked up as (R301). -/
theorem decodePair_class6 {op : Byte} {ins : Instr} (h : hiNibble op = 6 ∧ decodeInOut (loNibble op) = some ins) (v : Byte) :
    decodePair true (hiNibble op) (loNibble op) v = some ins := by
  obtain ⟨hclass, hlookup⟩ := h
  rw [hclass]
  exact hlookup

/-- OUT's byte is of class 6, and its low nibble is looked up as OUT (R301). -/
theorem out_lookup : ∀ dev : BitVec 3, dev ≠ 0 →
    hiNibble (0b01100#5 ++ dev) = 6 ∧ decodeInOut (loNibble (0b01100#5 ++ dev)) = some (.out dev) := by decide

/-- INP's byte is of class 6, and its low nibble is looked up as INP (R301). -/
theorem inp_lookup : ∀ dev : BitVec 3, dev ≠ 0 →
    hiNibble (0b01101#5 ++ dev) = 6 ∧ decodeInOut (loNibble (0b01101#5 ++ dev)) = some (.inp dev) := by decide

/-- The table has an entry for every well-formed instruction of the profile, at the instruction's own opcode byte (R94, R95, R301). -/
theorem entry_of_encode {ext : Bool} {ins : Instr} (hwf : ins.wellFormed = true) (havail : ins.availableIn ext = true) :
    ∃ op operand, encode ins = op :: operand ∧ decodePair ext (hiNibble op) (loNibble op) (operand.headD 0) = some ins := by
  have hprofile (hext : ins.isExt = true) : ext = true := by simpa [Instr.availableIn, hext] using havail
  cases ins
  case ldn n =>
    have hn : n ≠ 0 := by simpa [Instr.wellFormed] using hwf
    refine ⟨_, _, rfl, ?_⟩
    rw [hiNibble_opcodeByte, loNibble_opcodeByte]
    exact congrArg some (if_neg hn)
  case inc | dec | str | glo | ghi | plo | phi | sep | sex =>
    all_goals
      refine ⟨_, _, rfl, ?_⟩
      rw [hiNibble_opcodeByte, loNibble_opcodeByte]
      rfl
  case out dev =>
    have hdev : dev ≠ 0 := by simpa [Instr.wellFormed] using hwf
    exact ⟨_, _, rfl, by rw [hprofile rfl]; exact decodePair_class6 (out_lookup dev hdev) _⟩
  case inp dev =>
    have hdev : dev ≠ 0 := by simpa [Instr.wellFormed] using hwf
    exact ⟨_, _, rfl, by rw [hprofile rfl]; exact decodePair_class6 (inp_lookup dev hdev) _⟩
  case br | bq | bz | bdf | b1 | b2 | b3 | b4 | nbr | bnq | bnz | bnf | bn1 | bn2 | bn3 | bn4 =>
    all_goals exact ⟨_, _, rfl, by rw [hprofile rfl]; rfl⟩
  all_goals exact ⟨_, _, rfl, rfl⟩

/-! ## The round trip -/

/-- Settles O3: the instruction has an entry in the table, and the decoder reads an entry back from its encoding. -/
theorem decodeInvertsEncode : Obligations.DecodeInvertsEncode := by
  intro ext ins rest hwf havail
  obtain ⟨op, operand, -, hentry⟩ := entry_of_encode hwf havail
  exact decode_encode_of_entry hentry rest

/-- Settles O4: what the decoder accepts is an entry's opcode byte and operand byte, and these are the entry's encoding. -/
theorem encodeInvertsDecode : Obligations.EncodeInvertsDecode := by
  intro ext bytes rest ins h
  obtain ⟨i, n, v, hentry, hbytes⟩ := decode_ok_cases h
  obtain ⟨hencode, hwf, havail⟩ := decodePair_some hentry
  exact ⟨by rw [hbytes, hencode], hwf, havail⟩

/-! ## The undefined bytes -/

/-- Class 6 leaves device 0 undefined, in both directions (R99, R300). -/
theorem decodeInOut_eq_none_iff : ∀ n : Nibble, decodeInOut n = none ↔ n.toNat = 0 ∨ n.toNat = 8 := by decide

/-- Class 7 leaves four sub-opcodes undefined (R95). -/
theorem decodeClass7_eq_none_iff (n : Nibble) (v : Byte) :
    decodeClass7 n v = none ↔ n.toNat = 0 ∨ n.toNat = 1 ∨ n.toNat = 8 ∨ n.toNat = 9 := by
  have hlt := n.isLt
  unfold decodeClass7
  split
  case h_13 => simp only [imp_false, true_iff] at *; omega
  all_goals simp [*]

/-- The pairs without an entry, class by class (R95, R96, R300). -/
theorem decodePair_eq_none_iff (ext : Bool) (i n : Nibble) (v : Byte) : decodePair ext i n v = none ↔
    (i.toNat = 3 ∧ ext = false) ∨ i.toNat = 4 ∨ (i.toNat = 6 ∧ (ext = false ∨ n.toNat = 0 ∨ n.toNat = 8)) ∨
      (i.toNat = 7 ∧ (n.toNat = 0 ∨ n.toNat = 1 ∨ n.toNat = 8 ∨ n.toNat = 9)) ∨ (i.toNat = 12 ∧ n.toNat ≠ 4) := by
  have hlt := i.isLt
  unfold decodePair
  split
  case h_4 hi => cases ext <;> simp [hi]
  case h_6 hi => cases ext <;> simp [hi, decodeInOut_eq_none_iff]
  case h_7 hi => simp [hi, decodeClass7_eq_none_iff]
  case h_12 hi => simp [hi, ← BitVec.toNat_inj]
  case h_16 => simp only [imp_false, true_iff] at *; omega
  all_goals simp [*]

theorem opcodeByte_toNat (i n : Nibble) : (opcodeByte i n).toNat = 16 * i.toNat + n.toNat := by
  rw [opcodeByte, BitVec.toNat_append, ← Nat.shiftLeft_add_eq_or_of_lt n.isLt, Nat.shiftLeft_eq, Nat.mul_comm]

/-- The list of R96 holds the base profile's pairs without an entry. -/
theorem undefinedInBase_iff (i n : Nibble) (v : Byte) : UndefinedInBase (opcodeByte i n) ↔ decodePair false i n v = none := by
  have hi := i.isLt
  have hn := n.isLt
  simp only [decodePair_eq_none_iff, UndefinedInBase, BitVec.le_def, ← BitVec.toNat_inj, opcodeByte_toNat, BitVec.reduceToNat,
    and_true, true_or]
  omega

/-- The list of R300 and C13 holds the optional profile's pairs without an entry. -/
theorem undefinedInExt_iff (i n : Nibble) (v : Byte) : UndefinedInExt (opcodeByte i n) ↔ decodePair true i n v = none := by
  have hi := i.isLt
  have hn := n.isLt
  simp only [decodePair_eq_none_iff, UndefinedInExt, BitVec.le_def, ← BitVec.toNat_inj, opcodeByte_toNat, BitVec.reduceToNat,
    reduceCtorEq, and_false, false_or]
  omega

/-! ## The failing Execute tick -/

/-- The tick in Execute works on the latched pair after the preamble (R122, R126). -/
theorem tick_execute {s : State} (hcs : s.cs = .phase .execute) : tick s = executeTick s.clearLines := by
  simp only [tick, hcs, phaseTick]

theorem executeTick_of_some {s : State} {ins : Instr} (h : s.latchedInstr = some ins) : executeTick s = .next (after ins s) := by
  simp only [executeTick, h, exec_eq_after]

theorem executeTick_of_none {s : State} (h : s.latchedInstr = none) : executeTick s = .next s.raiseDecodeFailure := by
  simp only [executeTick, h]

/-- The event `tick` in Execute reports a DecodeFailure exactly when the latched pair has no entry: it clears the report first, and no
instruction writes it (R126, R135, R400; log 4). -/
theorem tick_reports_decodeFailure_iff {s : State} (hcs : s.cs = .phase .execute) :
    (∃ (t : State) (f : DecodeFailure), perform .tick s = .next t ∧ t.report = some (.decodeFailure f)) ↔ s.latchedInstr = none := by
  have htick : perform .tick s = executeTick s.clearReport.clearLines := tick_execute (s := s.clearReport) hcs
  have hlatched : s.clearReport.clearLines.latchedInstr = s.latchedInstr := rfl
  rw [htick]
  cases hins : s.latchedInstr with
  | none =>
    rw [executeTick_of_none (hlatched.trans hins)]
    exact iff_of_true ⟨_, _, rfl, rfl⟩ rfl
  | some ins =>
    rw [executeTick_of_some (hlatched.trans hins)]
    refine iff_of_false ?_ nofun
    rintro ⟨t, f, ht, hreport⟩
    obtain rfl := Host.Outcome.next.inj ht
    obtain ⟨-, -, -, -, -, -, -, -, -, -, hkept, -⟩ := after_frame ins s.clearReport.clearLines
    exact nomatch hkept.symm.trans hreport

/-- Settles O6: the tick fails where the latched pair has no entry, and the spec's two lists hold just these pairs. -/
theorem failsExactlyOnUndefinedBytes : Obligations.FailsExactlyOnUndefinedBytes := by
  intro s hcs
  rw [tick_reports_decodeFailure_iff hcs, State.latchedInstr]
  cases s.branchIoExt with
  | true => exact (undefinedInExt_iff s.i s.n _).symm
  | false => exact (undefinedInBase_iff s.i s.n _).symm

/-! ## Sample words -/

/-- Settles O5, by evaluating the decoder on the twelve words. -/
theorem sampleWordsDecode : Obligations.SampleWordsDecode := by
  unfold Obligations.SampleWordsDecode
  decide

end Sys2Proof.Machine
end

section
/-! PROOFS. The cycle state machine (spec/40_cycle_fsm.md): the Fetch and the Execute tick (O9, O7, O8, O25, O15), how far the program
counter goes over one instruction (O19), and the events reset, run and pause (O10, O11, O12, O13, O14). -/

namespace Sys2Proof.Machine

/-! ## A tick in each control state -/

/-- A tick in a phase is that phase's tick after the preamble (R122). -/
theorem tick_of_phase {s : State} {ph : Phase} (hcs : s.cs = .phase ph) : tick s = phaseTick ph s.clearLines := by
  simp only [tick, hcs]

/-- A tick in Pause is the preamble alone (R128). -/
theorem tick_of_pause {s : State} {prev : Phase} (hcs : s.cs = .pause prev) : tick s = .next s.clearLines := by
  simp only [tick, hcs]

/-- The preamble does not depend on the lines it clears. -/
theorem tick_clearLines (s : State) : tick s.clearLines = tick s := by
  unfold tick
  rw [State.clearLines_cs]
  cases s.cs <;> rfl

theorem State.goto_of_cs {s : State} {ph : Phase} (hcs : s.cs = .phase ph) : s.goto ph = s := by
  rw [State.goto, ← hcs]

/-! ## The Fetch tick -/

/-- Settles O9, from what the Fetch tick latches and what it leaves in the registers. -/
theorem fetchTickLatchesOpcode : Obligations.FetchTickLatchesOpcode := by
  intro s hcs
  obtain ⟨hi, hn⟩ := State.fetchTick_latches (s := s.clearLines) rfl
  refine ⟨_, tick_fetch hcs, hi, hn, ?_, fun j hj => ?_, rfl⟩
  · rw [State.fetchTick_reg]
    exact (congrArg BitVec.toNat (if_pos rfl)).trans (word_succ_toNat _)
  · rw [State.fetchTick_reg]
    exact if_neg hj

/-! ## The Execute tick -/

/-- Settles O25: no instruction fails to complete, and each selects its phase. -/
theorem execSelectsNextPhase : Obligations.ExecSelectsNextPhase := fun ins s =>
  ⟨after ins s, exec_eq_after ins s, after_cs ins s⟩

/-- The event `tick` in Execute runs the latched instruction, the report cleared and the preamble done (R122, R126). -/
theorem perform_tick_execute {s : State} {ins : Instr} (hcs : s.cs = .phase .execute) (h : s.latchedInstr = some ins) :
    perform .tick s = .next (after ins s.clearReport.clearLines) :=
  (tick_execute (s := s.clearReport) hcs).trans (executeTick_of_some (s := s.clearReport.clearLines) h)

/-- The event `tick` in Execute takes a DecodeFailure where the latched pair has no entry (R135). -/
theorem perform_tick_fails {s : State} (hcs : s.cs = .phase .execute) (h : s.latchedInstr = none) :
    perform .tick s = .next s.clearReport.clearLines.raiseDecodeFailure :=
  (tick_execute (s := s.clearReport) hcs).trans (executeTick_of_none (s := s.clearReport.clearLines) h)

/-- Settles O15: the failing tick raises the failure on the state after the preamble, and a failure recorded before stays the record. -/
theorem decodeFailureChangesNothing : Obligations.DecodeFailureChangesNothing := by
  intro s hcs hnone
  rw [perform_tick_fails hcs hnone]
  have hrecord : (s.fault <|> some s.decodeFailure) = some (s.fault.getD s.decodeFailure) := by cases s.fault <;> rfl
  exact congrArg (fun f => Host.Outcome.next { s.clearReport.clearLines.raiseDecodeFailure with fault := f }) hrecord

/-! ## A step in Fetch and a step in Execute -/

/-- The latched pair is looked up as the opcode byte it was latched from, followed by the operand byte (R92, R93). -/
theorem State.latchedInstr_of_decode {s : State} {ins : Instr} {rest : List Byte}
    (h : decode s.branchIoExt [opcodeByte s.i s.n, s.operandByte] = .ok (ins, rest)) : s.latchedInstr = some ins := by
  have hentry := decode_pair_iff.mp ⟨rest, h⟩
  rwa [hiNibble_opcodeByte, loNibble_opcodeByte] at hentry

/-- The Fetch tick latches the instruction that the bytes at the program counter decode to (R125, R126). -/
theorem State.fetchTick_latchedInstr {s : State} {ins : Instr} {rest : List Byte}
    (h : decode s.branchIoExt [s.memRead s.pc, s.memRead (s.pc + 1)] = .ok (ins, rest)) : s.fetchTick.latchedInstr = some ins := by
  apply State.latchedInstr_of_decode
  rw [State.fetchTick_opcode, State.fetchTick_operandByte]
  exact h

/-- A step whose host call is `tick` runs the latched instruction when the control state is Execute. -/
theorem step_of_latchedInstr {s : State} {ins : Instr} (hcall : s.nextCall = .tick) (hcs : s.cs = .phase .execute)
    (h : s.latchedInstr = some ins) : step s = exec ins s.takeCall.clearReport.clearLines := by
  rw [step, hcall, exec_eq_after]
  exact perform_tick_execute (s := s.takeCall) hcs h

/-- Settles O7: what the latches and the operand byte decode to is the latched instruction. -/
theorem stepRunsLatchedInstruction : Obligations.StepRunsLatchedInstruction := fun _ _ _ hcall hcs h =>
  step_of_latchedInstr hcall hcs (State.latchedInstr_of_decode h)

/-- Settles O8: the first step is the Fetch tick, which latches the instruction that the second step runs. -/
theorem twoStepsRunTheInstructionAtPc : Obligations.TwoStepsRunTheInstructionAtPc := by
  intro s ins rest hcall hnext hcs h
  have hlatched := State.fetchTick_latchedInstr (s := s.takeCall.clearReport.clearLines) h
  have hcall' : s.takeCall.clearReport.clearLines.fetchTick.nextCall = .tick := by simpa [State.nextCall] using hnext
  refine ⟨_, ?_, rfl, step_of_latchedInstr hcall' rfl hlatched⟩
  rw [step, hcall]
  exact tick_fetch (s := s.takeCall.clearReport) hcs

/-! ## The program counter over one instruction -/

/-- A write to another register leaves the program counter. -/
theorem State.setReg_pc_of_ne {s : State} {k : Nibble} (h : k ≠ s.p) (v : Word) : (s.setReg k v).pc = s.pc :=
  State.reg_setReg_other s h.symm v

theorem State.stepOverOperand_pc (s : State) : s.stepOverOperand.pc = s.pc + 1 :=
  State.reg_setReg_same s s.p (s.pc + 1)

/-- Whether an instruction writes the program counter depends on the state through `P` and `X` alone. -/
theorem writesPc_congr {ins : Instr} {s t : State} (hp : t.p = s.p) (hx : t.x = s.x) : writesPc ins t = writesPc ins s := by
  cases ins <;> simp only [writesPc, hp, hx]

/-- SEP alone writes `P` (R24). -/
theorem after_p {ins : Instr} {s : State} (h : writesPc ins s = false) : (after ins s).p = s.p := by
  obtain ⟨hp | ⟨n, rfl⟩, -⟩ := onlyNamedInstructionsWrite ins s _ (exec_eq_after ins s)
  · exact hp
  · cases h

/-- The Execute tick of an instruction that does not write the program counter steps it over the operand byte, if there is one
(R137, R195). -/
theorem after_pc {ins : Instr} {s : State} (h : writesPc ins s = false) :
    (after ins s).pc = s.pc + BitVec.ofNat 16 (encode ins).tail.length := by
  have hstay : s.pc = s.pc + BitVec.ofNat 16 0 := (BitVec.add_zero s.pc).symm
  cases ins
  case sep => cases h
  case br | bq | bz | bdf | b1 | b2 | b3 | b4 | nbr | bnq | bnz | bnf | bn1 | bn2 | bn3 | bn4 => cases h
  case inc n | dec n | plo n | phi n => exact (State.setReg_pc_of_ne (of_decide_eq_false h) _).trans hstay
  case ldxa =>
    exact (State.setReg_pc_of_ne (s := s.setD s.byteViaX) (of_decide_eq_false h) _).trans hstay
  case stxd =>
    exact (State.setReg_pc_of_ne (s := s.memWrite s.dp s.d) (of_decide_eq_false h) _).trans hstay
  case out dev =>
    exact (State.setReg_pc_of_ne (s := (s.selectDevice dev).setBus s.byteViaX) (of_decide_eq_false h) _).trans hstay
  case adci | sdbi | smbi | ldi | ori | ani | xri | adi | sdi | smi => exact s.stepOverOperand_pc
  all_goals exact hstay

theorem ticks_succ_of_next {k : Nat} {s t : State} (h : perform .tick s = .next t) : ticks (k + 1) s = ticks k t := by
  simp only [ticks, h]

/-- The event `tick` in Fetch. -/
theorem perform_tick_fetch {s : State} (hcs : s.cs = .phase .fetch) :
    perform .tick s = .next s.clearReport.clearLines.fetchTick :=
  tick_fetch (s := s.clearReport) hcs

/-- The event `tick` in ForceExecute selects Fetch (R127). -/
theorem perform_tick_forceExecute {s : State} (hcs : s.cs = .phase .forceExecute) :
    perform .tick s = .next (s.clearReport.clearLines.goto .fetch) :=
  tick_of_phase (s := s.clearReport) hcs

/-- The Execute tick of an instruction that does not write the program counter: the phase it selects, and the step over the operand byte
(R134, R137). -/
theorem perform_tick_advances {s : State} {ins : Instr} (hcs : s.cs = .phase .execute) (hins : s.latchedInstr = some ins)
    (hpc : writesPc ins s = false) :
    ∃ u, perform .tick s = .next u ∧
      u.cs = (if ins = .nop then .phase .forceExecute else if ins = .idl then .phase .execute else .phase .fetch) ∧
      u.p = s.p ∧ u.pc = s.pc + BitVec.ofNat 16 (encode ins).tail.length :=
  ⟨_, perform_tick_execute hcs hins, after_cs ins _, after_p (s := s.clearReport.clearLines) hpc,
    after_pc (s := s.clearReport.clearLines) hpc⟩

/-- From the Execute tick to Fetch: one tick, or NOP's two, with the program counter past the operand byte (R134, R136). -/
theorem ticks_of_latchedInstr {s : State} {ins : Instr} (hcs : s.cs = .phase .execute) (hins : s.latchedInstr = some ins)
    (hpc : writesPc ins s = false) (hidl : ins ≠ .idl) :
    ∃ t, ticks (if ins = .nop then 2 else 1) s = .next t ∧ t.cs = .phase .fetch ∧ t.p = s.p ∧
      t.pc = s.pc + BitVec.ofNat 16 (encode ins).tail.length := by
  obtain ⟨u, hexec, hphase, hp, hadvance⟩ := perform_tick_advances hcs hins hpc
  split
  · next hnop =>
    rw [if_pos hnop] at hphase
    exact ⟨_, (ticks_succ_of_next hexec).trans (ticks_succ_of_next (perform_tick_forceExecute hphase)), rfl, hp, hadvance⟩
  · next hnop =>
    rw [if_neg hnop, if_neg hidl] at hphase
    exact ⟨_, ticks_succ_of_next hexec, hphase, hp, hadvance⟩

theorem State.idleTick_p (s : State) : s.idleTick.p = s.p := rfl

theorem State.idleTick_pc (s : State) : s.idleTick.pc = s.pc := rfl

/-- IDL is latched as the pair (0, 0) alone (R98). -/
theorem State.latched_of_idl {s : State} (h : s.latchedInstr = some .idl) : s.i = 0 ∧ s.n = 0 := by
  obtain ⟨hbytes, -, -⟩ := decodePair_some h
  have hop : opcodeByte s.i s.n = 0x00 := (List.cons.inj hbytes).1.symm
  have hi := hiNibble_opcodeByte s.i s.n
  have hn := loNibble_opcodeByte s.i s.n
  rw [hop] at hi hn
  exact ⟨hi.symm, hn.symm⟩

/-- The first tick in Execute with IDL latched leaves the core idling, and further ones change nothing (R160). -/
theorem ticks_idle {s : State} (hcs : s.cs = .phase .execute) (hi : s.i = 0) (hn : s.n = 0) (k : Nat) :
    ticks (k + 1) s = .next s.clearReport.idleTick := by
  have hidling : s.clearReport.idleTick.Idling := ⟨hi, hn, rfl, State.idleTick_idempotent _⟩
  rw [ticks_succ_of_next (tick_idle (s := s.clearReport) hcs hi hn), hidling.ticks_eq]

/-- Ticks in Execute with IDL latched leave the program counter in place (R137). -/
theorem ticks_of_latched_idl {s : State} (hcs : s.cs = .phase .execute) (hidl : s.latchedInstr = some .idl) (k : Nat) :
    ∃ t, ticks k s = .next t ∧ t.p = s.p ∧ t.pc = s.pc := by
  obtain ⟨hi, hn⟩ := State.latched_of_idl hidl
  cases k with
  | zero => exact ⟨s, rfl, rfl, rfl⟩
  | succ k => exact ⟨_, ticks_idle hcs hi hn k, s.clearReport.idleTick_p, s.clearReport.idleTick_pc⟩

theorem encode_length (ins : Instr) : (encode ins).length = 1 + (encode ins).tail.length := by
  cases ins <;> rfl

/-- Settles O19: the Fetch tick steps over the opcode and latches the instruction; its Execute tick steps over the operand byte, if there
is one, and IDL's over nothing. -/
theorem pcAdvancesByLength : Obligations.PcAdvancesByLength := by
  intro s ins rest hcs h hpc
  have hfetch := perform_tick_fetch hcs
  have hlatched := State.fetchTick_latchedInstr (s := s.clearReport.clearLines) h
  have hpc' : writesPc ins s.clearReport.clearLines.fetchTick = false := (writesPc_congr (s := s) rfl rfl).trans hpc
  have hfetchPc : s.clearReport.clearLines.fetchTick.pc = s.pc + 1 := State.fetchTick_pc _
  refine ⟨fun hidl => ?_, ?_⟩
  · obtain ⟨t, ht, htcs, htp, htpc⟩ := ticks_of_latchedInstr (s := s.clearReport.clearLines.fetchTick) rfl hlatched hpc' hidl
    refine ⟨t, ?_, htcs, htp, ?_⟩
    · have hcount : (if ins = .nop then 3 else 2) = (if ins = .nop then 2 else 1) + 1 := by split <;> rfl
      rw [hcount, ticks_succ_of_next hfetch, ht]
    · rw [htpc, hfetchPc, encode_length, BitVec.ofNat_add]
      exact BitVec.add_assoc _ _ _
  · rintro rfl k
    obtain ⟨t, ht, htp, htpc⟩ := ticks_of_latched_idl (s := s.clearReport.clearLines.fetchTick) rfl hlatched k
    exact ⟨t, (ticks_succ_of_next hfetch).trans ht, htp, htpc.trans hfetchPc⟩

/-! ## Reset and Init -/

theorem tick_reset {s : State} (hcs : s.cs = .phase .reset) : tick s = .next s.clearLines.resetTick :=
  tick_of_phase hcs

/-- In Reset every host call but `run` and `pause` leaves the control state: the events tick in Reset again, the other calls run no tick
(R123, R129). -/
theorem perform_stays_in_reset {c : HostCall} {s t : State} (hcs : s.cs = .phase .reset) (hrun : c ≠ .run) (hpause : c ≠ .pause)
    (h : perform c s = .next t) : t.cs = .phase .reset := by
  rcases perform_cases h with ⟨u, hu, htick⟩ | ⟨hc, -, -⟩ | ⟨index, value, -, rfl⟩ | ⟨value, -, rfl⟩ | ⟨addr, value, -, -, rfl⟩
  · have hucs : u.cs = .phase .reset := by
      cases hu with
      | tick => exact hcs
      | reset => rfl
      | runReset | runPhase | runPause => exact absurd rfl hrun
      | pausePhase | pausePause => exact absurd rfl hpause
    obtain rfl := Host.Outcome.next.inj ((tick_reset hucs).symm.trans htick)
    rfl
  · exact absurd hc hrun
  · rw [State.hostSetFlag_eq]; exact hcs
  · rw [State.hostSetBus_eq]; exact hcs
  · rw [State.hostLoad_eq]; exact hcs

/-- Settles O10: the event `reset` is the tick in Reset from any control state. -/
theorem resetEventLeaves : Obligations.ResetEventLeaves := by
  refine fun s => ⟨rfl, fun hcs => ⟨?_, fun c t hrun hpause h => perform_stays_in_reset hcs hrun hpause h⟩⟩
  rw [tick_reset hcs, State.resetTick, ← hcs]
  rfl

/-- Settles O11, from what the Init tick leaves in the registers. -/
theorem initTickClears : Obligations.InitTickClears := by
  refine fun s hcs => ⟨s.clearLines.initTick, tick_of_phase hcs, ?_, fun j hj => ?_, rfl⟩
  · rw [State.initTick_reg, if_pos rfl]
  · rw [State.initTick_reg]
    exact if_neg hj

/-! ## Run and pause -/

/-- The event `run` resumes the phase a pause remembers (R130). -/
theorem perform_run_of_pause {s : State} {prev : Phase} (hcs : s.cs = .pause prev) :
    perform .run s = tick (s.clearReport.markStarted.goto prev) :=
  perform_eq_tick (.runPause _ prev hcs)

/-- `run` in Init performs no tick (log 10). -/
theorem perform_run_of_init {s : State} (hcs : s.cs = .phase .init) : perform .run s = .next s.clearReport.markStarted := by
  simp only [perform, runEvent, State.clearReport_cs, hcs]

/-- Settles O12, from the state that `run` prepares for its tick in each control state but Init. -/
theorem runEventTable : Obligations.RunEventTable := by
  intro s
  have running {ph : Phase} (hcs : s.cs = .phase ph) (hr : ph ≠ .reset) (hi : ph ≠ .init) :
      perform .run s = perform .tick { s with started := true } :=
    perform_eq_tick (.runPhase _ ph hcs hr hi)
  refine ⟨fun hcs => perform_eq_tick (.runReset _ hcs), perform_run_of_init, ?_, fun prev hcs => perform_run_of_pause hcs⟩
  rintro (hcs | hcs | hcs)
  · exact running hcs nofun nofun
  · exact running hcs nofun nofun
  · exact running hcs nofun nofun

/-- The event `pause` in a phase remembers it; its tick is the preamble alone (R131). -/
theorem perform_pause_of_phase {s : State} {ph : Phase} (hcs : s.cs = .phase ph) :
    perform .pause s = .next (s.clearReport.freeze ph).clearLines :=
  (perform_eq_tick (.pausePhase _ ph hcs)).trans (tick_of_pause rfl)

/-- Settles O13: a tick in Pause is the preamble alone, whether the event is `pause` or `tick`. -/
theorem pauseFreezes : Obligations.PauseFreezes := fun s =>
  ⟨fun _ hcs => perform_pause_of_phase hcs, fun prev hcs =>
    have hfrozen : tick s.clearReport = .next s.clearReport.clearLines := tick_of_pause hcs
    ⟨(perform_eq_tick (.pausePause _ prev hcs)).trans hfrozen, hfrozen⟩⟩

/-- Settles O14: `run` after `pause` prepares the state the `tick` would have run in, but for the lines, which the tick clears itself. -/
theorem pauseThenRunIsTick : Obligations.PauseThenRunIsTick := by
  intro s ph hcs
  refine ⟨_, perform_pause_of_phase hcs, ?_⟩
  have hresume : s.clearReport.markStarted.goto ph = s.clearReport.markStarted := State.goto_of_cs hcs
  calc perform .run (s.clearReport.freeze ph).clearLines
      = tick (s.clearReport.markStarted.goto ph).clearLines := perform_run_of_pause (prev := ph) rfl
    _ = tick s.clearReport.markStarted := by rw [tick_clearLines, hresume]
    _ = perform .tick { s with started := true } := rfl

end Sys2Proof.Machine
end

section
/-! PROOFS. IDL and LDN (spec/41_idle_ldn.md): IDL's tick repeats for ever (O20) and LDN loads through `R[N]` (O30). -/

namespace Sys2Proof.Machine

/-! ## The opcode bytes -/

/-- The opcode byte as a number, the class in the high digit (R90). -/
theorem opcodeByte_eq_ofNat (i n : Nibble) : opcodeByte i n = BitVec.ofNat 8 (16 * i.toNat + n.toNat) := by
  rw [← opcodeByte_toNat, BitVec.ofNat_toNat, BitVec.setWidth_eq]

/-- An entry of the table at the pair `(i, n)` in both profiles is the entry of the pair's opcode byte (R90, R93). -/
theorem encodedAs_of_pair {i n : Nibble} {ins : Byte → Instr} (h : ∀ (ext : Bool) (v : Byte), decodePair ext i n v = some (ins v)) :
    EncodedAs (BitVec.ofNat 8 (16 * i.toNat + n.toNat)) ins := by
  rw [← opcodeByte_eq_ofNat, EncodedAs, hiNibble_opcodeByte, loNibble_opcodeByte]
  exact h

/-- Class 0 is LDN but for the pair (0, 0) (R98, R161). -/
theorem decodePair_ldn {n : Nibble} (hn : n ≠ 0) (ext : Bool) (v : Byte) : decodePair ext 0 n v = some (.ldn n) :=
  congrArg some (if_neg hn)

theorem encodedAs_idl : EncodedAs 0x00 (fun _ => .idl) :=
  encodedAs_of_pair (i := 0) (n := 0) decodePair_idl

theorem encodedAs_ldn {n : Nibble} (hn : n ≠ 0) : EncodedAs (BitVec.ofNat 8 n.toNat) (fun _ => .ldn n) := by
  have hentry := encodedAs_of_pair (decodePair_ldn hn)
  rwa [show 16 * (0 : Nibble).toNat + n.toNat = n.toNat from Nat.zero_add _] at hentry

/-! ## The Execute tick -/

/-- IDL's rule writes `BUS` and selects Execute (R160). -/
theorem exec_idl (s : State) : exec .idl s = .next ((s.setBus (s.memRead (s.reg 0))).goto .execute) := rfl

/-- LDN's rule writes `D` and selects Fetch (R161). -/
theorem exec_ldn (n : Nibble) (s : State) : exec (.ldn n) s = .next ((s.setD (s.memRead (s.reg n))).goto .fetch) := rfl

/-- In Execute the Idle Execute tick stays where it is: the lines and `BUS` are all it writes (R122, R160). -/
theorem State.idleTick_of_execute {s : State} (hcs : s.cs = .phase .execute) :
    s.idleTick = s.clearLines.setBus (s.memRead (s.reg 0)) :=
  State.goto_of_cs (s := s.clearLines.setBus (s.memRead (s.reg 0))) hcs

/-- Settles O20: the first tick leaves the core idling in Execute, where further ticks change nothing. -/
theorem idleRepeatsForEver : Obligations.IdleRepeatsForEver := by
  refine ⟨encodedAs_idl, exec_idl, fun k s hcs hi hn => ?_⟩
  calc ticks (k + 1) s
      = .next s.clearReport.idleTick := ticks_idle hcs hi hn k
    _ = .next (s.clearReport.clearLines.setBus (s.memRead (s.reg 0))) :=
        congrArg Host.Outcome.next (State.idleTick_of_execute (s := s.clearReport) hcs)

/-- Settles O30, from LDN's entry in the table and its rule. -/
theorem ldnLoadsViaN : Obligations.LdnLoadsViaN := fun n hn => ⟨encodedAs_ldn hn, exec_ldn n⟩

end Sys2Proof.Machine
end

section
/-! PROOFS. The register instructions (spec/42_register_ops.md): INC and DEC step `R[N]` (O36), GLO and GHI read a byte of it (O37), PLO
and PHI write one (O38). -/

namespace Sys2Proof.Machine

/-! ## The opcode bytes -/

theorem encodedAs_inc (n : Nibble) : EncodedAs (BitVec.ofNat 8 (0x10 + n.toNat)) (fun _ => .inc n) :=
  encodedAs_of_pair (i := 0x1) fun _ _ => rfl

theorem encodedAs_dec (n : Nibble) : EncodedAs (BitVec.ofNat 8 (0x20 + n.toNat)) (fun _ => .dec n) :=
  encodedAs_of_pair (i := 0x2) fun _ _ => rfl

theorem encodedAs_glo (n : Nibble) : EncodedAs (BitVec.ofNat 8 (0x80 + n.toNat)) (fun _ => .glo n) :=
  encodedAs_of_pair (i := 0x8) fun _ _ => rfl

theorem encodedAs_ghi (n : Nibble) : EncodedAs (BitVec.ofNat 8 (0x90 + n.toNat)) (fun _ => .ghi n) :=
  encodedAs_of_pair (i := 0x9) fun _ _ => rfl

theorem encodedAs_plo (n : Nibble) : EncodedAs (BitVec.ofNat 8 (0xA0 + n.toNat)) (fun _ => .plo n) :=
  encodedAs_of_pair (i := 0xA) fun _ _ => rfl

theorem encodedAs_phi (n : Nibble) : EncodedAs (BitVec.ofNat 8 (0xB0 + n.toNat)) (fun _ => .phi n) :=
  encodedAs_of_pair (i := 0xB) fun _ _ => rfl

/-! ## The Execute tick -/

/-- INC's rule (R170). -/
theorem exec_inc (n : Nibble) (s : State) : exec (.inc n) s = .next ((s.setReg n (s.reg n + 1)).goto .fetch) := rfl

/-- DEC's rule (R171). -/
theorem exec_dec (n : Nibble) (s : State) : exec (.dec n) s = .next ((s.setReg n (s.reg n - 1)).goto .fetch) := rfl

/-- GLO's rule (R172). -/
theorem exec_glo (n : Nibble) (s : State) : exec (.glo n) s = .next ((s.setD (lowByte (s.reg n))).goto .fetch) := rfl

/-- GHI's rule (R173). -/
theorem exec_ghi (n : Nibble) (s : State) : exec (.ghi n) s = .next ((s.setD (highByte (s.reg n))).goto .fetch) := rfl

/-- PLO's rule (R174). -/
theorem exec_plo (n : Nibble) (s : State) :
    exec (.plo n) s = .next ((s.setReg n (joinBytes (highByte (s.reg n)) s.d)).goto .fetch) := rfl

/-- PHI's rule (R175). -/
theorem exec_phi (n : Nibble) (s : State) :
    exec (.phi n) s = .next ((s.setReg n (joinBytes s.d (lowByte (s.reg n)))).goto .fetch) := rfl

/-- A rule that writes `R[n]` and selects Fetch: the value it leaves there, and its frame. -/
theorem exec_writes_register {ins : Instr} {n : Nibble} {s : State} {v : Word} {m : Nat}
    (hexec : exec ins s = .next ((s.setReg n v).goto .fetch)) (hv : v.toNat = m) :
    ∃ t : State, exec ins s = .next t ∧ (t.reg n).toNat = m ∧ OnlyRegister n s t ∧ t = { s with r := t.r, cs := .phase .fetch } := by
  refine ⟨_, hexec, ?_, fun j hj => State.reg_setReg_other s hj v, rfl⟩
  rw [State.goto_reg, State.reg_setReg_same, hv]

/-! ## Executions in a row -/

/-- A rule that applies `f` to `R[n]`, executed `k` times in a row, applies it `k` times and leaves the other registers. -/
theorem execTimes_iterates {ins : Instr} {n : Nibble} {f : Word → Word}
    (hexec : ∀ s : State, exec ins s = .next ((s.setReg n (f (s.reg n))).goto .fetch)) (k : Nat) (s : State) :
    ∃ t : State, execTimes ins k s = .next t ∧ t.reg n = f^[k] (s.reg n) ∧ OnlyRegister n s t := by
  induction k generalizing s with
  | zero => exact ⟨s, rfl, rfl, fun _ _ => rfl⟩
  | succ k ih =>
    obtain ⟨t, hrun, hreg, hothers⟩ := ih ((s.setReg n (f (s.reg n))).goto .fetch)
    refine ⟨t, ?_, ?_, fun j hj => (hothers j hj).trans (State.reg_setReg_other s hj _)⟩
    · simp only [execTimes, hexec, hrun]
    · rw [hreg, State.goto_reg, State.reg_setReg_same, Function.iterate_succ_apply]

/-- `k` increments of a word add `k` modulo 2^16 (R170). -/
theorem word_succ_iterate_toNat (k : Nat) (w : Word) : ((· + 1)^[k] w).toNat = (w.toNat + k) % 65536 := by
  induction k with
  | zero => exact (Nat.mod_eq_of_lt w.isLt).symm
  | succ k ih =>
    rw [Function.iterate_succ_apply', word_succ_toNat, ih]
    omega

/-- `k` decrements of a word subtract `k` modulo 2^16 (R171). -/
theorem word_pred_iterate_toNat (k : Nat) (w : Word) : (((· - 1)^[k] w).toNat : Int) = ((w.toNat : Int) - k) % 65536 := by
  induction k with
  | zero =>
    have := w.isLt
    rw [Function.iterate_zero_apply]
    omega
  | succ k ih =>
    rw [Function.iterate_succ_apply', word_pred_toNat]
    omega

/-! ## The instructions -/

/-- Settles O36: one execution from the rule, `k` in a row from the iterated step of a word. -/
theorem incDecWrap : Obligations.IncDecWrap := by
  refine fun n => ⟨encodedAs_inc n, encodedAs_dec n, fun s =>
    ⟨exec_writes_register (exec_inc n s) (word_succ_toNat _), exec_writes_register (exec_dec n s) (word_pred_toNat _),
      fun k => ⟨?_, ?_⟩⟩⟩
  · obtain ⟨t, hrun, hreg, hothers⟩ := execTimes_iterates (f := (· + 1)) (exec_inc n) k s
    exact ⟨t, hrun, by rw [hreg, word_succ_iterate_toNat], hothers⟩
  · obtain ⟨t, hrun, hreg, hothers⟩ := execTimes_iterates (f := (· - 1)) (exec_dec n) k s
    exact ⟨t, hrun, by rw [hreg, word_pred_iterate_toNat], hothers⟩

/-- Settles O37: a byte of the register as a number. -/
theorem gloGhiReadBytes : Obligations.GloGhiReadBytes := fun n =>
  ⟨encodedAs_glo n, encodedAs_ghi n, fun s =>
    ⟨⟨_, exec_glo n s, lowByte_toNat _, rfl⟩, ⟨_, exec_ghi n s, highByte_toNat _, rfl⟩⟩⟩

/-- Settles O38: the joined bytes as a number, one of them the register's own. -/
theorem ploPhiWriteBytes : Obligations.PloPhiWriteBytes := by
  refine fun n => ⟨encodedAs_plo n, encodedAs_phi n, fun s =>
    ⟨exec_writes_register (exec_plo n s) ?_, exec_writes_register (exec_phi n s) ?_⟩⟩
  · rw [joinBytes_toNat, highByte_toNat]
  · rw [joinBytes_toNat, lowByte_toNat]

end Sys2Proof.Machine
end

section
/-! PROOFS. Loads and stores (spec/43_load_store.md): LDX and LDXA load through `R[X]` (O31), LDI and the other immediate instructions
take the byte at `R[P]` (O32, O33), STR and STXD store `D` (O34, O35). -/

namespace Sys2Proof.Machine

/-! ## The opcode bytes -/

theorem encodedAs_ldx : EncodedAs 0xF0 (fun _ => .ldx) :=
  encodedAs_of_pair (i := 0xF) (n := 0x0) fun _ _ => rfl

theorem encodedAs_ldxa : EncodedAs 0x72 (fun _ => .ldxa) :=
  encodedAs_of_pair (i := 0x7) (n := 0x2) fun _ _ => rfl

theorem encodedAs_ldi : EncodedAs 0xF8 .ldi :=
  encodedAs_of_pair (i := 0xF) (n := 0x8) fun _ _ => rfl

theorem encodedAs_str (n : Nibble) : EncodedAs (BitVec.ofNat 8 (0x50 + n.toNat)) (fun _ => .str n) :=
  encodedAs_of_pair (i := 0x5) fun _ _ => rfl

theorem encodedAs_stxd : EncodedAs 0x73 (fun _ => .stxd) :=
  encodedAs_of_pair (i := 0x7) (n := 0x3) fun _ _ => rfl

/-! ## The Execute tick -/

/-- LDX's rule (R190). -/
theorem exec_ldx (s : State) : exec .ldx s = .next ((s.setD (s.memRead (s.reg s.x))).goto .fetch) := rfl

/-- LDXA's rule: the load, then the step of `R[X]` (R191). -/
theorem exec_ldxa (s : State) : exec .ldxa s = .next ((s.setD (s.memRead (s.reg s.x))).advanceX.goto .fetch) := rfl

/-- LDI's rule, the operand byte already read (R194, log 6). -/
theorem exec_ldi (v : Byte) (s : State) : exec (.ldi v) s = .next ((s.stepOverOperand.setD v).goto .fetch) := rfl

/-- STR's rule (R192). -/
theorem exec_str (n : Nibble) (s : State) : exec (.str n) s = .next ((s.memWrite (s.reg n) s.d).goto .fetch) := rfl

/-- STXD's rule: the store, then the step of `R[X]` (R193). -/
theorem exec_stxd (s : State) : exec .stxd s = .next ((s.memWrite (s.reg s.x) s.d).retreatX.goto .fetch) := rfl

/-! ## The register that is stepped -/

/-- A write of `R[k]`, as a number and with its frame. -/
theorem State.setReg_registers (s : State) (k : Nibble) {v : Word} {m : Nat} (hv : v.toNat = m) :
    ((s.setReg k v).reg k).toNat = m ∧ OnlyRegister k s (s.setReg k v) :=
  ⟨by rw [State.reg_setReg_same, hv], fun _ hj => State.reg_setReg_other s hj v⟩

theorem State.advanceX_registers (s : State) :
    (s.advanceX.reg s.x).toNat = ((s.reg s.x).toNat + 1) % 65536 ∧ OnlyRegister s.x s s.advanceX :=
  s.setReg_registers s.x (word_succ_toNat (s.reg s.x))

theorem State.retreatX_registers (s : State) :
    (s.retreatX.reg s.x).toNat = ((s.reg s.x).toNat + 65535) % 65536 ∧ OnlyRegister s.x s s.retreatX :=
  s.setReg_registers s.x (word_pred_toNat (s.reg s.x))

theorem State.stepOverOperand_registers (s : State) :
    (s.stepOverOperand.reg s.p).toNat = ((s.reg s.p).toNat + 1) % 65536 ∧ OnlyRegister s.p s s.stepOverOperand :=
  s.setReg_registers s.p (word_succ_toNat (s.reg s.p))

/-! ## Loads through `R[X]` -/

/-- Settles O31: the load writes `D` alone, so LDXA steps the `R[X]` it has read through. -/
theorem ldxLdxaLoadViaX : Obligations.LdxLdxaLoadViaX := by
  refine ⟨encodedAs_ldx, encodedAs_ldxa, fun s => ⟨exec_ldx s, ?_⟩⟩
  obtain ⟨hx, hothers⟩ := (s.setD (s.memRead (s.reg s.x))).advanceX_registers
  exact ⟨_, exec_ldxa s, hx, hothers, rfl⟩

/-! ## The immediate operand -/

/-- Settles O32, from the step of `R[P]` over the operand byte. -/
theorem ldiLoadsImmediate : Obligations.LdiLoadsImmediate := by
  refine ⟨encodedAs_ldi, fun v s => ?_⟩
  obtain ⟨hp, hothers⟩ := s.stepOverOperand_registers
  exact ⟨_, exec_ldi v s, hp, hothers, rfl⟩

/-- Each immediate instruction writes `D`, and the arithmetic ones `DF`; to the registers it does what the step over the operand byte
does (R195), and `P` it leaves. -/
theorem after_immediate_registers {ins : Byte → Instr}
    (h : ins ∈ [Instr.ldi, .adi, .adci, .sdi, .sdbi, .smi, .smbi, .ori, .ani, .xri]) (v : Byte) (s : State) :
    (∀ j : Nibble, (after (ins v) s).reg j = s.stepOverOperand.reg j) ∧ (after (ins v) s).p = s.p := by
  simp only [List.mem_cons, List.not_mem_nil, or_false] at h
  rcases h with rfl | rfl | rfl | rfl | rfl | rfl | rfl | rfl | rfl | rfl <;> exact ⟨fun _ => rfl, rfl⟩

/-- Settles O33: after the Fetch tick `R[P]` is the address after the opcode, and the Execute tick of an immediate instruction steps it
over the byte read there. -/
theorem immFetchReadsAtPc : Obligations.ImmFetchReadsAtPc := by
  refine ⟨fun s hcs => ⟨_, tick_fetch hcs, s.clearLines.fetchTick_operandByte⟩, fun s ins hins h => ?_⟩
  obtain ⟨hregs, hp⟩ := after_immediate_registers hins s.operandByte s
  obtain ⟨hpc, hothers⟩ := s.stepOverOperand_registers
  have hexec := exec_eq_after (ins s.operandByte) s
  refine ⟨(executeTick_of_some h).trans hexec.symm, _, hexec, ?_, hp, fun j hj => (hregs j).trans (hothers j hj)⟩
  exact (congrArg BitVec.toNat (hregs s.p)).trans hpc

/-! ## Stores -/

/-- Settles O34, from what a store does to memory. -/
theorem strStoresViaN : Obligations.StrStoresViaN := by
  refine fun n => ⟨encodedAs_str n, fun s hm => ?_⟩
  obtain ⟨hbyte, hothers, -⟩ := writeSetsOneCell s (s.reg n) s.d hm
  exact ⟨_, exec_str n s, hbyte, hothers, rfl⟩

/-- Settles O35: the store leaves the registers and the step of `R[X]` leaves memory. -/
theorem stxdStoresAndDecrements : Obligations.StxdStoresAndDecrements := by
  refine ⟨encodedAs_stxd, fun s hm => ?_⟩
  obtain ⟨hbyte, hbytes, -⟩ := writeSetsOneCell s (s.reg s.x) s.d hm
  obtain ⟨hx, hothers⟩ := (s.memWrite (s.reg s.x) s.d).retreatX_registers
  exact ⟨_, exec_stxd s, hbyte, hbytes, hx, hothers, rfl⟩

end Sys2Proof.Machine
end

section
/-! PROOFS. The arithmetic instructions (spec/44_arithmetic.md): the add family (O39, O40), the subtract family with the operand as minuend
(O41, O42) and with `D` as minuend (O43, O44), and two bytes in a row (O45). -/

namespace Sys2Proof.Machine

/-! ## The opcode bytes -/

theorem encodedAs_add : EncodedAs 0xF4 (fun _ => .add) :=
  encodedAs_of_pair (i := 0xF) (n := 0x4) fun _ _ => rfl

theorem encodedAs_adc : EncodedAs 0x74 (fun _ => .adc) :=
  encodedAs_of_pair (i := 0x7) (n := 0x4) fun _ _ => rfl

theorem encodedAs_adi : EncodedAs 0xFC .adi :=
  encodedAs_of_pair (i := 0xF) (n := 0xC) fun _ _ => rfl

theorem encodedAs_adci : EncodedAs 0x7C .adci :=
  encodedAs_of_pair (i := 0x7) (n := 0xC) fun _ _ => rfl

theorem encodedAs_sd : EncodedAs 0xF5 (fun _ => .sd) :=
  encodedAs_of_pair (i := 0xF) (n := 0x5) fun _ _ => rfl

theorem encodedAs_sdb : EncodedAs 0x75 (fun _ => .sdb) :=
  encodedAs_of_pair (i := 0x7) (n := 0x5) fun _ _ => rfl

theorem encodedAs_sdi : EncodedAs 0xFD .sdi :=
  encodedAs_of_pair (i := 0xF) (n := 0xD) fun _ _ => rfl

theorem encodedAs_sdbi : EncodedAs 0x7D .sdbi :=
  encodedAs_of_pair (i := 0x7) (n := 0xD) fun _ _ => rfl

theorem encodedAs_sm : EncodedAs 0xF7 (fun _ => .sm) :=
  encodedAs_of_pair (i := 0xF) (n := 0x7) fun _ _ => rfl

theorem encodedAs_smb : EncodedAs 0x77 (fun _ => .smb) :=
  encodedAs_of_pair (i := 0x7) (n := 0x7) fun _ _ => rfl

theorem encodedAs_smi : EncodedAs 0xFF .smi :=
  encodedAs_of_pair (i := 0xF) (n := 0xF) fun _ _ => rfl

theorem encodedAs_smbi : EncodedAs 0x7F .smbi :=
  encodedAs_of_pair (i := 0x7) (n := 0xF) fun _ _ => rfl

/-! ## The Execute tick -/

/-- ADD's rule (R211). -/
theorem exec_add (s : State) : exec .add s = .next ((s.addCore s.d (s.memRead (s.reg s.x)) false).goto .fetch) := rfl

/-- ADC's rule: the carry-in is the old `DF` (R213). -/
theorem exec_adc (s : State) : exec .adc s = .next ((s.addCore s.d (s.memRead (s.reg s.x)) s.df).goto .fetch) := rfl

/-- ADI's rule, the operand byte already read (R212, log 6). -/
theorem exec_adi (v : Byte) (s : State) : exec (.adi v) s = .next ((s.stepOverOperand.addCore s.d v false).goto .fetch) := rfl

/-- ADCI's rule (R214). -/
theorem exec_adci (v : Byte) (s : State) : exec (.adci v) s = .next ((s.stepOverOperand.addCore s.d v s.df).goto .fetch) := rfl

/-- SD's rule: `D` is the subtrahend (R216). -/
theorem exec_sd (s : State) : exec .sd s = .next ((s.subCore (s.memRead (s.reg s.x)) s.d true).goto .fetch) := rfl

/-- SDB's rule: the old `DF` is the complement of the incoming borrow (R218). -/
theorem exec_sdb (s : State) : exec .sdb s = .next ((s.subCore (s.memRead (s.reg s.x)) s.d s.df).goto .fetch) := rfl

/-- SDI's rule (R217). -/
theorem exec_sdi (v : Byte) (s : State) : exec (.sdi v) s = .next ((s.stepOverOperand.subCore v s.d true).goto .fetch) := rfl

/-- SDBI's rule (R219). -/
theorem exec_sdbi (v : Byte) (s : State) : exec (.sdbi v) s = .next ((s.stepOverOperand.subCore v s.d s.df).goto .fetch) := rfl

/-- SM's rule: `D` is the minuend (R220). -/
theorem exec_sm (s : State) : exec .sm s = .next ((s.subCore s.d (s.memRead (s.reg s.x)) true).goto .fetch) := rfl

/-- SMB's rule (R222). -/
theorem exec_smb (s : State) : exec .smb s = .next ((s.subCore s.d (s.memRead (s.reg s.x)) s.df).goto .fetch) := rfl

/-- SMI's rule (R221). -/
theorem exec_smi (v : Byte) (s : State) : exec (.smi v) s = .next ((s.stepOverOperand.subCore s.d v true).goto .fetch) := rfl

/-- SMBI's rule (R223). -/
theorem exec_smbi (v : Byte) (s : State) : exec (.smbi v) s = .next ((s.stepOverOperand.subCore s.d v s.df).goto .fetch) := rfl

/-! ## The adder's result -/

/-- The old `DF` as the carry-in of the adder (R210). -/
theorem carry_toNat (c : Bool) : c.toNat = if c then 1 else 0 := by cases c <;> rfl

/-- The adder on the old `D` and an operand byte leaves the 9-bit sum in `D` and `DF`; `u` is the state the rule has reached, `R[P]`
stepped or not (R210). -/
theorem addCore_addResult (s u : State) (v : Byte) {c : Bool} {m : Nat} (hc : c.toNat = m) :
    AddResult s ((u.addCore s.d v c).goto .fetch) v m :=
  hc ▸ ⟨u.addCore_toNat s.d v c, u.addCore_carry s.d v c⟩

/-- The sum with the complement is 256 more than the difference less the borrow, which is R215's derived form. -/
theorem complement_sum (a b : Byte) (m : Nat) :
    ((a.toNat + (0xFF - b.toNat) + m : Nat) : Int) = (a.toNat : Int) - b.toNat - (1 - m) + 256 := by
  have := b.isLt
  omega

/-- The subtracter leaves minuend minus subtrahend minus borrow in `D` and no borrow in `DF` (R215, R224). -/
theorem subCore_subResult (u : State) (a b : Byte) {c : Bool} {m : Nat} (hc : c.toNat = m) :
    SubResult ((u.subCore a b c).goto .fetch) a b m := by
  subst hc
  have hsum := complement_sum a b c.toNat
  have hd := u.subCore_toNat a b c
  have hdf := u.subCore_noBorrow a b c
  refine ⟨hd, hdf, ?_, hdf.trans ?_⟩
  · rw [State.goto_d, hd]
    omega
  · omega

/-! ## The add family -/

/-- Settles O39: the adder with the byte at `R[X]`, the carry-in 0 or the old `DF`. -/
theorem addAdcResult : Obligations.AddAdcResult :=
  ⟨encodedAs_add, encodedAs_adc, fun s =>
    ⟨⟨_, exec_add s, addCore_addResult s s _ rfl, rfl⟩,
      ⟨_, exec_adc s, addCore_addResult s s _ (carry_toNat s.df), rfl⟩⟩⟩

/-- Settles O40: the adder runs after the step of `R[P]` over the operand byte and leaves the registers. -/
theorem adiAdciResult : Obligations.AdiAdciResult := by
  refine ⟨encodedAs_adi, encodedAs_adci, fun v s => ?_⟩
  obtain ⟨hp, hothers⟩ := s.stepOverOperand_registers
  exact ⟨⟨_, exec_adi v s, addCore_addResult s _ v rfl, hp, hothers, rfl⟩,
    ⟨_, exec_adci v s, addCore_addResult s _ v (carry_toNat s.df), hp, hothers, rfl⟩⟩

/-! ## The subtract family, operand minus `D` -/

/-- Settles O41: the subtracter with the byte at `R[X]` as minuend. -/
theorem sdSdbResult : Obligations.SdSdbResult :=
  ⟨encodedAs_sd, encodedAs_sdb, fun s =>
    ⟨⟨_, exec_sd s, subCore_subResult s _ s.d rfl, rfl⟩,
      ⟨_, exec_sdb s, subCore_subResult s _ s.d (carry_toNat s.df), rfl⟩⟩⟩

/-- Settles O42: the operand byte as minuend, `R[P]` stepped past it. -/
theorem sdiSdbiResult : Obligations.SdiSdbiResult := by
  refine ⟨encodedAs_sdi, encodedAs_sdbi, fun v s => ?_⟩
  obtain ⟨hp, hothers⟩ := s.stepOverOperand_registers
  exact ⟨⟨_, exec_sdi v s, subCore_subResult _ v s.d rfl, hp, hothers, rfl⟩,
    ⟨_, exec_sdbi v s, subCore_subResult _ v s.d (carry_toNat s.df), hp, hothers, rfl⟩⟩

/-! ## The mirrored subtract family, `D` minus operand -/

/-- Settles O43: the subtracter with `D` as minuend. -/
theorem smSmbResult : Obligations.SmSmbResult :=
  ⟨encodedAs_sm, encodedAs_smb, fun s =>
    ⟨⟨_, exec_sm s, subCore_subResult s s.d _ rfl, rfl⟩,
      ⟨_, exec_smb s, subCore_subResult s s.d _ (carry_toNat s.df), rfl⟩⟩⟩

/-- Settles O44: `D` as minuend, `R[P]` stepped past the operand byte. -/
theorem smiSmbiResult : Obligations.SmiSmbiResult := by
  refine ⟨encodedAs_smi, encodedAs_smbi, fun v s => ?_⟩
  obtain ⟨hp, hothers⟩ := s.stepOverOperand_registers
  exact ⟨⟨_, exec_smi v s, subCore_subResult _ s.d v rfl, hp, hothers, rfl⟩,
    ⟨_, exec_smbi v s, subCore_subResult _ s.d v (carry_toNat s.df), hp, hothers, rfl⟩⟩

/-! ## Two bytes in a row -/

/-- A flag that tells a sum of nine bits from its low byte is the bit above that byte (R210). -/
theorem carry_and_lowByte {c : Bool} {sum : Nat} (hc : c = true ↔ 0xFF < sum) (hsum : sum < 512) :
    256 * c.toNat + sum % 256 = sum := by
  rw [← Bool.toNat_eq_one] at hc
  have := c.toNat_le
  omega

/-- Where a flag stands above the low sixteen bits of a sum, it is the carry out of them. -/
theorem carry_of_sixteenBits {c : Bool} {d sum : Nat} (hsum : 65536 * c.toNat + d = sum) (hd : d < 65536) :
    d = sum % 65536 ∧ (c = true ↔ 65536 ≤ sum) := by
  rw [← Bool.toNat_eq_one]
  have := c.toNat_le
  omega

/-- `D` with `DF` above it is the whole sum (R210). -/
theorem addResult_nineBits {s t : State} {v : Byte} {c : Bool} (h : AddResult s t v c.toNat) :
    256 * t.df.toNat + t.d.toNat = s.d.toNat + v.toNat + c.toNat := by
  obtain ⟨hd, hdf⟩ := h
  rw [hd]
  exact carry_and_lowByte hdf (by have := s.d.isLt; have := v.isLt; have := c.toNat_lt; omega)

/-- `D` with `DF` above it is the whole sum with the complement, the no-borrow being its top bit (R215, R224). -/
theorem subResult_nineBits {t : State} {a b : Byte} {c : Bool} (h : SubResult t a b c.toNat) :
    256 * t.df.toNat + t.d.toNat = a.toNat + (0xFF - b.toNat) + c.toNat := by
  obtain ⟨hd, hdf, -, -⟩ := h
  rw [hd]
  exact carry_and_lowByte hdf (by have := a.isLt; have := c.toNat_lt; omega)

/-- The two bytes of a word as a number (R14). -/
theorem bytes_toNat (w : Word) : 256 * (highByte w).toNat + (lowByte w).toNat = w.toNat := by
  rw [highByte_toNat, lowByte_toNat, Nat.div_add_mod]

/-- The carry of the low bytes, handed on in `DF`, makes the two sums one of sixteen bits (R224). -/
theorem addResult_chain {a b : Word} {s t w u : State} (hs : s.d = lowByte a) (hw : w.d = highByte a)
    (hlow : AddResult s t (lowByte b) 0) (hhigh : AddResult w u (highByte b) t.df.toNat) :
    u.d.toNat * 256 + t.d.toNat = (a.toNat + b.toNat) % 65536 ∧ (u.df = true ↔ 65536 ≤ a.toNat + b.toNat) := by
  replace hlow : 256 * t.df.toNat + t.d.toNat = (lowByte a).toNat + (lowByte b).toNat := hs ▸ addResult_nineBits (c := false) hlow
  replace hhigh : 256 * u.df.toNat + u.d.toNat = (highByte a).toNat + (highByte b).toNat + t.df.toNat :=
    hw ▸ addResult_nineBits hhigh
  have ha := bytes_toNat a
  have hb := bytes_toNat b
  have hsum : 65536 * u.df.toNat + (u.d.toNat * 256 + t.d.toNat) = a.toNat + b.toNat := by omega
  exact carry_of_sixteenBits hsum (by have := u.d.isLt; have := t.d.isLt; omega)

/-- The no-borrow of the low bytes, handed on in `DF`, makes the two differences one of sixteen bits (R224). -/
theorem subResult_chain {a b : Word} {t u : State} (hlow : SubResult t (lowByte a) (lowByte b) 1)
    (hhigh : SubResult u (highByte a) (highByte b) t.df.toNat) :
    ((u.d.toNat * 256 + t.d.toNat : Nat) : Int) = ((a.toNat : Int) - b.toNat) % 65536 ∧ (u.df = true ↔ b.toNat ≤ a.toNat) := by
  replace hlow : 256 * t.df.toNat + t.d.toNat = (lowByte a).toNat + (0xFF - (lowByte b).toNat) + 1 :=
    subResult_nineBits (c := true) hlow
  replace hhigh := subResult_nineBits hhigh
  have ha := bytes_toNat a
  have hb := bytes_toNat b
  have := (lowByte b).isLt
  have := (highByte b).isLt
  have hsum : 65536 * u.df.toNat + (u.d.toNat * 256 + t.d.toNat) = a.toNat + (65536 - b.toNat) := by omega
  obtain ⟨hd, hdf⟩ := carry_of_sixteenBits hsum (by have := u.d.isLt; have := t.d.isLt; omega)
  exact ⟨by omega, hdf.trans (by omega)⟩

/-- Settles O45, from the results of the single instructions (O40, O44): the second takes the flag the first left. -/
theorem chainedBytesMakeSixteenBits : Obligations.ChainedBytesMakeSixteenBits := by
  obtain ⟨-, -, hsub⟩ := smiSmbiResult
  obtain ⟨-, -, hadd⟩ := adiAdciResult
  refine fun s a b => ⟨?_, ?_⟩
  · obtain ⟨⟨t, hrunLow, hlow, -⟩, -⟩ := hsub (lowByte b) { s with d := lowByte a }
    obtain ⟨-, ⟨u, hrunHigh, hhigh, -⟩⟩ := hsub (highByte b) { t with d := highByte a }
    exact ⟨t, u, hrunLow, hrunHigh, subResult_chain hlow (carry_toNat t.df ▸ hhigh)⟩
  · obtain ⟨⟨t, hrunLow, hlow, -⟩, -⟩ := hadd (lowByte b) { s with d := lowByte a }
    obtain ⟨-, ⟨u, hrunHigh, hhigh, -⟩⟩ := hadd (highByte b) { t with d := highByte a }
    exact ⟨t, u, hrunLow, hrunHigh, addResult_chain rfl rfl hlow (carry_toNat t.df ▸ hhigh)⟩

end Sys2Proof.Machine
end

section
/-! PROOFS. Logic and shifts (spec/45_logic_shift.md): OR, AND and XOR with the byte at `R[X]` (O46) and with the operand byte (O47), the
shifts (O48) and the rotates (O49) as numbers, and the round trips of the rotates, which turn the nine bits of `DF` and `D` (O50). -/

namespace Sys2Proof.Machine

/-! ## The opcode bytes -/

theorem encodedAs_or : EncodedAs 0xF1 (fun _ => .or) :=
  encodedAs_of_pair (i := 0xF) (n := 0x1) fun _ _ => rfl

theorem encodedAs_and : EncodedAs 0xF2 (fun _ => .and) :=
  encodedAs_of_pair (i := 0xF) (n := 0x2) fun _ _ => rfl

theorem encodedAs_xor : EncodedAs 0xF3 (fun _ => .xor) :=
  encodedAs_of_pair (i := 0xF) (n := 0x3) fun _ _ => rfl

theorem encodedAs_ori : EncodedAs 0xF9 .ori :=
  encodedAs_of_pair (i := 0xF) (n := 0x9) fun _ _ => rfl

theorem encodedAs_ani : EncodedAs 0xFA .ani :=
  encodedAs_of_pair (i := 0xF) (n := 0xA) fun _ _ => rfl

theorem encodedAs_xri : EncodedAs 0xFB .xri :=
  encodedAs_of_pair (i := 0xF) (n := 0xB) fun _ _ => rfl

theorem encodedAs_shr : EncodedAs 0xF6 (fun _ => .shr) :=
  encodedAs_of_pair (i := 0xF) (n := 0x6) fun _ _ => rfl

theorem encodedAs_shrc : EncodedAs 0x76 (fun _ => .shrc) :=
  encodedAs_of_pair (i := 0x7) (n := 0x6) fun _ _ => rfl

theorem encodedAs_shl : EncodedAs 0xFE (fun _ => .shl) :=
  encodedAs_of_pair (i := 0xF) (n := 0xE) fun _ _ => rfl

theorem encodedAs_shlc : EncodedAs 0x7E (fun _ => .shlc) :=
  encodedAs_of_pair (i := 0x7) (n := 0xE) fun _ _ => rfl

/-! ## The Execute tick -/

/-- OR's rule (R240). -/
theorem exec_or (s : State) : exec .or s = .next ((s.setD (s.d ||| s.memRead (s.reg s.x))).goto .fetch) := rfl

/-- AND's rule (R241). -/
theorem exec_and (s : State) : exec .and s = .next ((s.setD (s.d &&& s.memRead (s.reg s.x))).goto .fetch) := rfl

/-- XOR's rule (R242). -/
theorem exec_xor (s : State) : exec .xor s = .next ((s.setD (s.d ^^^ s.memRead (s.reg s.x))).goto .fetch) := rfl

/-- ORI's rule, the operand byte already read (R243, log 6). -/
theorem exec_ori (v : Byte) (s : State) : exec (.ori v) s = .next ((s.stepOverOperand.setD (s.d ||| v)).goto .fetch) := rfl

/-- ANI's rule (R244). -/
theorem exec_ani (v : Byte) (s : State) : exec (.ani v) s = .next ((s.stepOverOperand.setD (s.d &&& v)).goto .fetch) := rfl

/-- XRI's rule (R245). -/
theorem exec_xri (v : Byte) (s : State) : exec (.xri v) s = .next ((s.stepOverOperand.setD (s.d ^^^ v)).goto .fetch) := rfl

/-- SHR's rule: a 0 is shifted in (R246). -/
theorem exec_shr (s : State) : exec .shr s = .next ((s.shiftRight false).goto .fetch) := rfl

/-- SHRC's rule: the old `DF` is shifted in (R247). -/
theorem exec_shrc (s : State) : exec .shrc s = .next ((s.shiftRight s.df).goto .fetch) := rfl

/-- SHL's rule: a 0 is shifted in (R248). -/
theorem exec_shl (s : State) : exec .shl s = .next ((s.shiftLeft false).goto .fetch) := rfl

/-- SHLC's rule: the old `DF` is shifted in (R249). -/
theorem exec_shlc (s : State) : exec .shlc s = .next ((s.shiftLeft s.df).goto .fetch) := rfl

/-! ## Logic -/

/-- Settles O46: the bits of an or, an and and an exclusive or of two bytes. -/
theorem logicViaX : Obligations.LogicViaX :=
  ⟨encodedAs_or, encodedAs_and, encodedAs_xor, fun s =>
    ⟨_, _, _, exec_or s, exec_and s, exec_xor s, fun _ => ⟨BitVec.getLsbD_or, BitVec.getLsbD_and, BitVec.getLsbD_xor⟩,
      rfl, rfl, rfl⟩⟩

/-- Settles O47: the bits as in O46, and `R[P]` stepped past the operand byte whatever is written to `D`. -/
theorem logicImmediate : Obligations.LogicImmediate := by
  refine ⟨encodedAs_ori, encodedAs_ani, encodedAs_xri, fun v s => ⟨_, _, _, exec_ori v s, exec_ani v s, exec_xri v s,
    fun _ => ⟨BitVec.getLsbD_or, BitVec.getLsbD_and, BitVec.getLsbD_xor⟩, ?_⟩⟩
  obtain ⟨hp, hothers⟩ := s.stepOverOperand_registers
  simp only [List.forall_mem_cons]
  exact ⟨⟨hp, hothers, rfl⟩, ⟨hp, hothers, rfl⟩, ⟨hp, hothers, rfl⟩, List.forall_mem_nil _⟩

/-! ## Shifts and rotates as numbers -/

/-- A right shift halves `D` under the bit shifted in, and `DF` tells an odd byte (R246, R247). -/
theorem State.shiftRight_result (s : State) (c : Bool) :
    (s.shiftRight c).d.toNat = (if c then 128 else 0) + s.d.toNat / 2 ∧ ((s.shiftRight c).df = true ↔ s.d.toNat % 2 = 1) :=
  shiftRight_table s.d c

/-- A left shift doubles `D` above the bit shifted in, and `DF` tells a byte of 128 or more (R248, R249). -/
theorem State.shiftLeft_result (s : State) (c : Bool) :
    (s.shiftLeft c).d.toNat = s.d.toNat * 2 % 256 + (if c then 1 else 0) ∧ ((s.shiftLeft c).df = true ↔ 128 ≤ s.d.toNat) :=
  shiftLeft_table s.d c

/-- Settles O48: the shifts with a 0 shifted in. -/
theorem shiftsPushOutIntoDf : Obligations.ShiftsPushOutIntoDf := by
  refine ⟨encodedAs_shr, encodedAs_shl, fun s => ?_⟩
  obtain ⟨hright, hlow⟩ := s.shiftRight_result false
  obtain ⟨hleft, hhigh⟩ := s.shiftLeft_result false
  exact ⟨⟨_, exec_shr s, hright.trans (Nat.zero_add _), hlow, rfl⟩, ⟨_, exec_shl s, hleft, hhigh, rfl⟩⟩

/-- Settles O49: the shifts with the old `DF` shifted in. -/
theorem rotatesThroughDf : Obligations.RotatesThroughDf := by
  refine ⟨encodedAs_shrc, encodedAs_shlc, fun s => ?_⟩
  obtain ⟨hright, hlow⟩ := s.shiftRight_result s.df
  obtain ⟨hleft, hhigh⟩ := s.shiftLeft_result s.df
  exact ⟨⟨_, exec_shrc s, hright, hlow, rfl⟩, ⟨_, exec_shlc s, hleft, hhigh, rfl⟩⟩

/-! ## Rotations of nine bits -/

/-- A left rotation carries each bit, counted round the nine, to the next place. -/
theorem getLsbD_rotateLeft_next (w : BitVec 9) (i : Nat) : (w.rotateLeft 1).getLsbD ((i + 1) % 9) = w.getLsbD (i % 9) := by
  rw [BitVec.getLsbD_rotateLeft, Bool.cond_decide]
  split
  · congr 1; omega
  · rw [decide_eq_true (by omega), Bool.true_and]
    congr 1; omega

/-- A right rotation carries each bit, counted round the nine, to the place before. -/
theorem getLsbD_rotateRight_prev (w : BitVec 9) (i : Nat) : (w.rotateRight 1).getLsbD (i % 9) = w.getLsbD ((i + 1) % 9) := by
  rw [BitVec.getLsbD_rotateRight, Bool.cond_decide]
  split
  · congr 1; omega
  · rw [decide_eq_true (by omega), Bool.true_and]
    congr 1; omega

/-- Words of nine bits that agree at every place, counted round the nine, are equal. -/
theorem eq_of_bits_round {v w : BitVec 9} {k : Nat} (h : ∀ i : Nat, v.getLsbD ((i + k) % 9) = w.getLsbD ((i + k) % 9)) : v = w := by
  refine BitVec.eq_of_getLsbD_eq fun i hi => ?_
  have hround : (i + 8 * k + k) % 9 = i := by omega
  rw [← hround]
  exact h _

theorem rotateRight_rotateLeft (w : BitVec 9) : (w.rotateLeft 1).rotateRight 1 = w :=
  eq_of_bits_round (k := 0) fun i => (getLsbD_rotateRight_prev _ i).trans (getLsbD_rotateLeft_next w i)

theorem rotateLeft_rotateRight (w : BitVec 9) : (w.rotateRight 1).rotateLeft 1 = w :=
  eq_of_bits_round (k := 1) fun i => (getLsbD_rotateLeft_next _ i).trans (getLsbD_rotateRight_prev w i)

/-- After `k` left rotations a bit, counted round the nine, is `k` places on. -/
theorem getLsbD_iterate_rotateLeft (w : BitVec 9) (k i : Nat) :
    ((BitVec.rotateLeft · 1)^[k] w).getLsbD ((i + k) % 9) = w.getLsbD (i % 9) := by
  induction k with
  | zero => rfl
  | succ k ih => rw [Function.iterate_succ_apply', ← Nat.add_assoc, getLsbD_rotateLeft_next, ih]

/-- Nine left rotations bring every bit home (R251). -/
theorem rotateLeft_nine_times (w : BitVec 9) : (BitVec.rotateLeft · 1)^[9] w = w :=
  eq_of_bits_round (k := 9) fun i => (getLsbD_iterate_rotateLeft w 9 i).trans (by rw [Nat.add_mod_right])

/-- Nine right rotations do too, since they undo nine left ones (R251). -/
theorem rotateRight_nine_times (w : BitVec 9) : (BitVec.rotateRight · 1)^[9] w = w :=
  calc (BitVec.rotateRight · 1)^[9] w
      = (BitVec.rotateRight · 1)^[9] ((BitVec.rotateLeft · 1)^[9] w) := by rw [rotateLeft_nine_times]
    _ = w := Function.LeftInverse.iterate (g := (BitVec.rotateRight · 1)) rotateRight_rotateLeft 9 w

/-! ## The nine bits the rotates turn -/

/-- `DF` above `D`: the nine bits that SHLC and SHRC turn round (R247, R249). -/
def State.dfAndD (s : State) : BitVec 9 := BitVec.cons s.df s.d

/-- The nine bits tell `D` and `DF`. -/
theorem State.dfAndD_inj {s t : State} (h : s.dfAndD = t.dfAndD) : s.d = t.d ∧ s.df = t.df :=
  ⟨by simpa only [State.dfAndD, BitVec.setWidth_cons] using congrArg (BitVec.setWidth 8) h,
    by simpa only [State.dfAndD, BitVec.msb_cons] using congrArg BitVec.msb h⟩

/-- A right shift of the old `DF` into `D` turns the nine bits right: the bit pushed out goes to the top (R247). -/
theorem State.shiftRight_df_dfAndD (s : State) : (s.shiftRight s.df).dfAndD = s.dfAndD.rotateRight 1 := by
  refine BitVec.eq_of_getLsbD_eq fun i hi => ?_
  simp only [State.dfAndD, State.shiftRight_d, State.shiftRight_df, BitVec.getLsbD_cons, BitVec.getLsbD_rotateRight,
    BitVec.getLsbD_extractLsb']
  obtain rfl | rfl | hlt : i = 8 ∨ i = 7 ∨ i < 7 := by omega
  · rfl
  · rfl
  · simp [hlt, hlt.ne, show i ≠ 8 by omega, show i < 8 by omega, show 1 + i ≠ 8 by omega]

/-- A left shift of the old `DF` into `D` turns the nine bits left: the bit at the top goes to the bottom (R249). -/
theorem State.shiftLeft_df_dfAndD (s : State) : (s.shiftLeft s.df).dfAndD = s.dfAndD.rotateLeft 1 := by
  refine BitVec.eq_of_getLsbD_eq fun i hi => ?_
  simp only [State.dfAndD, State.shiftLeft_d, State.shiftLeft_df, BitVec.getLsbD_cons, BitVec.getLsbD_rotateLeft,
    BitVec.getLsbD_extractLsb', BitVec.getLsbD_concat]
  obtain rfl | rfl | ⟨hpos, hlt⟩ : i = 8 ∨ i = 0 ∨ 0 < i ∧ i < 8 := by omega
  · rfl
  · rfl
  · simp [hi, hlt.ne, hpos.ne', show i - 1 < 7 by omega, show i - 1 ≠ 8 by omega]

theorem exec_shlc_rotates (s : State) : ∃ t : State, exec .shlc s = .next t ∧ t.dfAndD = s.dfAndD.rotateLeft 1 :=
  ⟨_, exec_shlc s, s.shiftLeft_df_dfAndD⟩

theorem exec_shrc_rotates (s : State) : ∃ t : State, exec .shrc s = .next t ∧ t.dfAndD = s.dfAndD.rotateRight 1 :=
  ⟨_, exec_shrc s, s.shiftRight_df_dfAndD⟩

/-- A rule that applies `f` to the nine bits, executed `k` times in a row, applies it `k` times. -/
theorem execTimes_iterates_dfAndD {ins : Instr} {f : BitVec 9 → BitVec 9}
    (hexec : ∀ s : State, ∃ t : State, exec ins s = .next t ∧ t.dfAndD = f s.dfAndD) (k : Nat) (s : State) :
    ∃ t : State, execTimes ins k s = .next t ∧ t.dfAndD = f^[k] s.dfAndD := by
  induction k generalizing s with
  | zero => exact ⟨s, rfl, rfl⟩
  | succ k ih =>
    obtain ⟨t, hfirst, hbits⟩ := hexec s
    obtain ⟨u, hrest, hubits⟩ := ih t
    refine ⟨u, ?_, by rw [hubits, hbits, Function.iterate_succ_apply]⟩
    simp only [execTimes, hfirst, hrest]

/-- Doubled and then halved, a byte loses its top bit (R251). -/
theorem State.shiftRight_shiftLeft_toNat (s : State) : ((s.shiftLeft false).shiftRight false).d.toNat = s.d.toNat % 128 := by
  obtain ⟨hleft, -⟩ := s.shiftLeft_result false
  obtain ⟨hright, -⟩ := (s.shiftLeft false).shiftRight_result false
  rw [hright, hleft, if_neg Bool.false_ne_true, if_neg Bool.false_ne_true]
  omega

/-- Settles O50: a turn each way, and nine turns one way, restore the nine bits of `DF` and `D`; SHL then SHR doubles and halves `D`. -/
theorem shiftRoundTrips : Obligations.ShiftRoundTrips := by
  refine fun s => ⟨?_, ?_, ?_, ?_, ⟨_, _, exec_shl s, exec_shr _, s.shiftRight_shiftLeft_toNat⟩⟩
  · obtain ⟨t, hleft, ht⟩ := exec_shlc_rotates s
    obtain ⟨u, hright, hu⟩ := exec_shrc_rotates t
    exact ⟨t, u, hleft, hright, State.dfAndD_inj (by rw [hu, ht, rotateRight_rotateLeft])⟩
  · obtain ⟨t, hright, ht⟩ := exec_shrc_rotates s
    obtain ⟨u, hleft, hu⟩ := exec_shlc_rotates t
    exact ⟨t, u, hright, hleft, State.dfAndD_inj (by rw [hu, ht, rotateLeft_rotateRight])⟩
  · obtain ⟨t, hrun, ht⟩ := execTimes_iterates_dfAndD (f := (BitVec.rotateLeft · 1)) exec_shlc_rotates 9 s
    exact ⟨t, hrun, State.dfAndD_inj (ht.trans (rotateLeft_nine_times _))⟩
  · obtain ⟨t, hrun, ht⟩ := execTimes_iterates_dfAndD (f := (BitVec.rotateRight · 1)) exec_shrc_rotates 9 s
    exact ⟨t, hrun, State.dfAndD_inj (ht.trans (rotateRight_nine_times _))⟩

end Sys2Proof.Machine
end

section
/-! PROOFS. The control instructions (spec/46_control.md): SEP and SEX write a selector (O51), SEQ and REQ write `Q` (O52), NOP goes
through ForceExecute (O53). -/

namespace Sys2Proof.Machine

/-! ## The opcode bytes -/

theorem encodedAs_sep (n : Nibble) : EncodedAs (BitVec.ofNat 8 (0xD0 + n.toNat)) (fun _ => .sep n) :=
  encodedAs_of_pair (i := 0xD) fun _ _ => rfl

theorem encodedAs_sex (n : Nibble) : EncodedAs (BitVec.ofNat 8 (0xE0 + n.toNat)) (fun _ => .sex n) :=
  encodedAs_of_pair (i := 0xE) fun _ _ => rfl

theorem encodedAs_seq : EncodedAs 0x7B (fun _ => .seq) :=
  encodedAs_of_pair (i := 0x7) (n := 0xB) fun _ _ => rfl

theorem encodedAs_req : EncodedAs 0x7A (fun _ => .req) :=
  encodedAs_of_pair (i := 0x7) (n := 0xA) fun _ _ => rfl

theorem encodedAs_nop : EncodedAs 0xC4 (fun _ => .nop) :=
  encodedAs_of_pair (i := 0xC) (n := 0x4) fun _ _ => rfl

/-! ## The Execute tick -/

/-- SEP's rule writes `P` and selects Fetch (R260). -/
theorem exec_sep (n : Nibble) (s : State) : exec (.sep n) s = .next ((s.setP n).goto .fetch) := rfl

/-- SEX's rule writes `X` and selects Fetch (R261). -/
theorem exec_sex (n : Nibble) (s : State) : exec (.sex n) s = .next ((s.setX n).goto .fetch) := rfl

/-- SEQ's rule writes `Q` and selects Fetch (R262). -/
theorem exec_seq (s : State) : exec .seq s = .next ((s.setQ true).goto .fetch) := rfl

/-- REQ's rule writes `Q` and selects Fetch (R263). -/
theorem exec_req (s : State) : exec .req s = .next ((s.setQ false).goto .fetch) := rfl

/-- NOP's rule only selects ForceExecute (R264). -/
theorem exec_nop (s : State) : exec .nop s = .next (s.goto .forceExecute) := rfl

/-- The tick in ForceExecute clears the lines, as every tick does, and selects Fetch (R122, R127). -/
theorem tick_forceExecute {s : State} (hcs : s.cs = .phase .forceExecute) : tick s = .next (s.clearLines.goto .fetch) :=
  tick_of_phase hcs

/-! ## The obligations -/

/-- Settles O51: SEP writes the selector `P` and SEX the selector `X`, then each selects Fetch. -/
theorem sepSexSelect : Obligations.SepSexSelect := fun n =>
  ⟨encodedAs_sep n, encodedAs_sex n, fun s => ⟨exec_sep n s, exec_sex n s⟩⟩

/-- Settles O52: both rules write `Q` and select Fetch. -/
theorem seqReqDriveQ : Obligations.SeqReqDriveQ :=
  ⟨encodedAs_seq, encodedAs_req, fun s => ⟨exec_seq s, exec_req s⟩⟩

/-- Settles O53, from NOP's rule and the tick in ForceExecute. -/
theorem nopBurnsOneTick : Obligations.NopBurnsOneTick :=
  ⟨encodedAs_nop, fun s => ⟨exec_nop s, tick_forceExecute⟩⟩

end Sys2Proof.Machine
end

section
/-! PROOFS. The optional profile (spec/48_ext_branch_io.md): the short branches on `Q`, `D` and `DF` (O54) and on the external flags (O55),
OUT (O56) and INP (O57). -/

namespace Sys2Proof.Machine

/-! ## The opcode bytes -/

/-- Class 3 holds the short branches, in the optional profile alone (R300, R301). -/
theorem encodedInExt_branch {n : Nibble} {ins : Byte → Instr} (h : ∀ v : Byte, decodeBranch n v = ins v) :
    EncodedInExt (BitVec.ofNat 8 (0x30 + n.toNat)) ins := by
  have hop : BitVec.ofNat 8 (0x30 + n.toNat) = opcodeByte 0x3 n := (opcodeByte_eq_ofNat 0x3 n).symm
  rw [hop, EncodedInExt, hiNibble_opcodeByte, loNibble_opcodeByte]
  exact fun v => ⟨congrArg some (h v), rfl⟩

/-- Class 6 is looked up in the optional profile alone (R300, R301). -/
theorem encodedInExt_inOut {op : Byte} {ins : Instr} (h : hiNibble op = 6 ∧ decodeInOut (loNibble op) = some ins) :
    EncodedInExt op (fun _ => ins) := by
  refine fun v => ⟨decodePair_class6 h v, ?_⟩
  obtain ⟨hclass, -⟩ := h
  rw [hclass]
  rfl

/-- OUT's byte as a number (R319). -/
theorem out_opcode : ∀ dev : BitVec 3, (0b01100#5 ++ dev : Byte) = BitVec.ofNat 8 (0x60 + dev.toNat) := by decide

/-- INP's byte as a number (R320). -/
theorem inp_opcode : ∀ dev : BitVec 3, (0b01101#5 ++ dev : Byte) = BitVec.ofNat 8 (0x68 + dev.toNat) := by decide

theorem encodedInExt_out {dev : BitVec 3} (h : dev ≠ 0) : EncodedInExt (BitVec.ofNat 8 (0x60 + dev.toNat)) (fun _ => .out dev) :=
  out_opcode dev ▸ encodedInExt_inOut (out_lookup dev h)

theorem encodedInExt_inp {dev : BitVec 3} (h : dev ≠ 0) : EncodedInExt (BitVec.ofNat 8 (0x68 + dev.toNat)) (fun _ => .inp dev) :=
  inp_opcode dev ▸ encodedInExt_inOut (inp_lookup dev h)

/-! ## The short branches -/

/-- What the short branches' common rule leaves in the registers, and its frame (R302). -/
theorem State.shortBranch_outcome (s : State) {cond : Bool} {c : Prop} (hc : cond = true ↔ c) (aa : Byte) :
    BranchOutcome c aa s (s.shortBranch cond aa) := by
  have hpc := s.shortBranch_reg cond aa s.p
  rw [if_pos rfl] at hpc
  refine ⟨fun htaken => ?_, fun hnot => ?_, fun j hj => ?_, s.shortBranch_eq cond aa⟩
  · rw [hpc, if_pos (hc.mpr htaken), joinBytes_toNat, highByte_toNat]
  · rw [hpc, if_neg (mt hc.mp hnot), word_succ_toNat]
  · exact (s.shortBranch_reg cond aa j).trans (if_neg hj)

/-- An instruction whose rule is the short branch on `cond` has the branch's outcome (R302). -/
theorem exec_shortBranch {ins : Instr} {s : State} {cond : Bool} {c : Prop} {aa : Byte}
    (hexec : exec ins s = .next (s.shortBranch cond aa)) (hc : cond = true ↔ c) :
    ∃ t : State, exec ins s = .next t ∧ BranchOutcome c aa s t :=
  ⟨_, hexec, s.shortBranch_outcome hc aa⟩

section
variable (aa : Byte) (s : State)

/-- BR's rule (R303). -/
theorem exec_br : exec (.br aa) s = .next (s.shortBranch true aa) := rfl

/-- BQ's rule (R304). -/
theorem exec_bq : exec (.bq aa) s = .next (s.shortBranch s.q aa) := rfl

/-- BZ's rule (R305). -/
theorem exec_bz : exec (.bz aa) s = .next (s.shortBranch (s.d == 0) aa) := rfl

/-- BDF's rule (R306). -/
theorem exec_bdf : exec (.bdf aa) s = .next (s.shortBranch s.df aa) := rfl

/-- B1's rule (R307). -/
theorem exec_b1 : exec (.b1 aa) s = .next (s.shortBranch s.ef1 aa) := rfl

/-- B2's rule (R308). -/
theorem exec_b2 : exec (.b2 aa) s = .next (s.shortBranch s.ef2 aa) := rfl

/-- B3's rule (R309). -/
theorem exec_b3 : exec (.b3 aa) s = .next (s.shortBranch s.ef3 aa) := rfl

/-- B4's rule (R310). -/
theorem exec_b4 : exec (.b4 aa) s = .next (s.shortBranch s.ef4 aa) := rfl

/-- NBR's rule (R311). -/
theorem exec_nbr : exec (.nbr aa) s = .next (s.shortBranch false aa) := rfl

/-- BNQ's rule (R312). -/
theorem exec_bnq : exec (.bnq aa) s = .next (s.shortBranch (!s.q) aa) := rfl

/-- BNZ's rule (R313). -/
theorem exec_bnz : exec (.bnz aa) s = .next (s.shortBranch (s.d != 0) aa) := rfl

/-- BNF's rule (R314). -/
theorem exec_bnf : exec (.bnf aa) s = .next (s.shortBranch (!s.df) aa) := rfl

/-- BN1's rule (R315). -/
theorem exec_bn1 : exec (.bn1 aa) s = .next (s.shortBranch (!s.ef1) aa) := rfl

/-- BN2's rule (R316). -/
theorem exec_bn2 : exec (.bn2 aa) s = .next (s.shortBranch (!s.ef2) aa) := rfl

/-- BN3's rule (R317). -/
theorem exec_bn3 : exec (.bn3 aa) s = .next (s.shortBranch (!s.ef3) aa) := rfl

/-- BN4's rule (R318). -/
theorem exec_bn4 : exec (.bn4 aa) s = .next (s.shortBranch (!s.ef4) aa) := rfl

end

/-- Settles O54: each is the short branch on its condition. -/
theorem branchesOnQDAndDf : Obligations.BranchesOnQDAndDf :=
  ⟨encodedInExt_branch (n := 0x0) fun _ => rfl, encodedInExt_branch (n := 0x8) fun _ => rfl,
    encodedInExt_branch (n := 0x1) fun _ => rfl, encodedInExt_branch (n := 0x2) fun _ => rfl,
    encodedInExt_branch (n := 0x3) fun _ => rfl, encodedInExt_branch (n := 0x9) fun _ => rfl,
    encodedInExt_branch (n := 0xA) fun _ => rfl, encodedInExt_branch (n := 0xB) fun _ => rfl,
    fun aa s => ⟨exec_shortBranch (exec_br aa s) (iff_of_true rfl trivial),
      exec_shortBranch (exec_nbr aa s) (iff_of_false Bool.false_ne_true not_false),
      exec_shortBranch (exec_bq aa s) Iff.rfl, exec_shortBranch (exec_bz aa s) beq_iff_eq,
      exec_shortBranch (exec_bdf aa s) Iff.rfl, exec_shortBranch (exec_bnq aa s) Bool.not_eq_eq_eq_not,
      exec_shortBranch (exec_bnz aa s) bne_iff_ne, exec_shortBranch (exec_bnf aa s) Bool.not_eq_eq_eq_not⟩⟩

/-- Settles O55: each is the short branch on its flag or on the flag's complement. -/
theorem branchesOnExternalFlags : Obligations.BranchesOnExternalFlags :=
  ⟨encodedInExt_branch (n := 0x4) fun _ => rfl, encodedInExt_branch (n := 0x5) fun _ => rfl,
    encodedInExt_branch (n := 0x6) fun _ => rfl, encodedInExt_branch (n := 0x7) fun _ => rfl,
    encodedInExt_branch (n := 0xC) fun _ => rfl, encodedInExt_branch (n := 0xD) fun _ => rfl,
    encodedInExt_branch (n := 0xE) fun _ => rfl, encodedInExt_branch (n := 0xF) fun _ => rfl,
    fun aa s => ⟨exec_shortBranch (exec_b1 aa s) Iff.rfl, exec_shortBranch (exec_b2 aa s) Iff.rfl,
      exec_shortBranch (exec_b3 aa s) Iff.rfl, exec_shortBranch (exec_b4 aa s) Iff.rfl,
      exec_shortBranch (exec_bn1 aa s) Bool.not_eq_eq_eq_not, exec_shortBranch (exec_bn2 aa s) Bool.not_eq_eq_eq_not,
      exec_shortBranch (exec_bn3 aa s) Bool.not_eq_eq_eq_not, exec_shortBranch (exec_bn4 aa s) Bool.not_eq_eq_eq_not⟩⟩

/-! ## OUT and INP -/

/-- OUT's rule: the lines, the byte on `BUS`, then the step of `R[X]` (R319). -/
theorem exec_out (dev : BitVec 3) (s : State) :
    exec (.out dev) s = .next (((s.selectDevice dev).setBus (s.memRead (s.reg s.x))).advanceX.goto .fetch) := rfl

/-- INP's rule: the lines, and the byte on `BUS` stored and loaded (R320). -/
theorem exec_inp (dev : BitVec 3) (s : State) :
    exec (.inp dev) s = .next ((((s.selectDevice dev).memWrite (s.reg s.x) s.bus).setD s.bus).goto .fetch) := rfl

/-- The three lines are the bits of the device number, `N0` the lowest (R32). -/
theorem device_bits : ∀ dev : BitVec 3,
    dev.toNat = (dev.getLsbD 0).toNat + 2 * (dev.getLsbD 1).toNat + 4 * (dev.getLsbD 2).toNat := by decide

/-- Settles O56: the byte goes to `BUS` before `R[X]` is stepped. -/
theorem outDrivesBusAndLines : Obligations.OutDrivesBusAndLines := by
  refine fun dev hdev => ⟨encodedInExt_out hdev, fun s => ?_⟩
  obtain ⟨hx, hothers⟩ := ((s.selectDevice dev).setBus (s.memRead (s.reg s.x))).advanceX_registers
  exact ⟨_, exec_out dev s, rfl, device_bits dev, hx, hothers, rfl⟩

/-- Settles O57: the store of the byte on `BUS` is a store as any other (O2). -/
theorem inpReadsBusAndShowsDevice : Obligations.InpReadsBusAndShowsDevice := by
  refine fun dev hdev => ⟨encodedInExt_inp hdev, fun s hm => ?_⟩
  obtain ⟨hbyte, hbytes, -⟩ := writeSetsOneCell (s.selectDevice dev) (s.reg s.x) s.bus hm
  exact ⟨_, exec_inp dev s, hbyte, hbytes, device_bits dev, rfl⟩

end Sys2Proof.Machine
end

section
/-! PROOFS. Exceptions (spec/60_exceptions.md): a failing core stays failing until a `reset` (O16), `reset` and then `run` restart it
(O17), and the one call that gets no next state (O24). -/

namespace Sys2Proof.Machine

/-! ## What a failing core keeps -/

/-- The Execute phase is due, now or by a `run` after a pause (R403). -/
def State.ExecuteDue (s : State) : Prop := s.cs = .phase .execute ∨ s.cs = .pause .execute

theorem State.ExecuteDue.of_phase {s : State} {ph : Phase} (h : s.ExecuteDue) (hcs : s.cs = .phase ph) : ph = .execute := by
  rcases h with hdue | hdue
  · exact Control.phase.inj (hcs.symm.trans hdue)
  · exact nomatch hcs.symm.trans hdue

theorem State.ExecuteDue.of_pause {s : State} {prev : Phase} (h : s.ExecuteDue) (hcs : s.cs = .pause prev) : prev = .execute := by
  rcases h with hdue | hdue
  · exact nomatch hcs.symm.trans hdue
  · exact Control.pause.inj (hcs.symm.trans hdue)

/-- The elements that no host call but `reset` writes while an undefined pair is latched (R402, R403). -/
def State.heldElements (s : State) : Bool × Nibble × Nibble × Byte × Bool × Vector Word 16 × Nibble × Nibble × Bool :=
  (s.branchIoExt, s.i, s.n, s.d, s.df, s.r, s.p, s.x, s.q)

/-- `t` holds the failing core of `s`: Execute is still due, the held elements are the same, and so is memory once the first `run` has
closed the load port (R72, R403). -/
structure HoldsFailure (s t : State) : Prop where
  due : t.ExecuteDue
  held : t.heldElements = s.heldElements
  memory : s.started = true → t.started = true ∧ t.mem = s.mem

/-- What leaves memory alone and the record of the first `run` set holds the failure, the load port open or closed. -/
theorem HoldsFailure.of_memory {s t : State} (hdue : t.ExecuteDue) (hheld : t.heldElements = s.heldElements)
    (hstarted : s.started = true → t.started = true) (hmem : t.mem = s.mem) : HoldsFailure s t :=
  ⟨hdue, hheld, fun hs => ⟨hstarted hs, hmem⟩⟩

theorem HoldsFailure.refl {s : State} (h : s.ExecuteDue) : HoldsFailure s s :=
  .of_memory h rfl id rfl

theorem HoldsFailure.trans {s t u : State} (h : HoldsFailure s t) (h' : HoldsFailure t u) : HoldsFailure s u := by
  refine ⟨h'.due, h'.held.trans h.held, fun hs => ?_⟩
  obtain ⟨ht, hmem⟩ := h.memory hs
  obtain ⟨hu, hmem'⟩ := h'.memory ht
  exact ⟨hu, hmem'.trans hmem⟩

/-- A held pair stays without an entry, whatever byte `R[P]` now points at (R93). -/
theorem HoldsFailure.failing {s t : State} (h : HoldsFailure s t) (hs : s.latchedInstr = none) : t.Failing := by
  obtain ⟨hext, hi, hn, -⟩ := by simpa only [State.heldElements, Prod.mk.injEq] using h.held
  exact ⟨h.due, State.latchedInstr_none_of hs hext hi hn⟩

/-! ## A failing core through host calls -/

/-- The tick of a failing core raises the failure, or in a pause does nothing but the preamble (R128, R135). -/
theorem tick_of_failing {s t : State} (hs : s.Failing) (h : tick s = .next t) :
    t = s.clearLines.raiseDecodeFailure ∨ t = s.clearLines := by
  obtain ⟨hcs | hcs, hnone⟩ := hs
  · exact .inl (Host.Outcome.next.inj (h.symm.trans ((tick_execute hcs).trans (executeTick_of_none (s := s.clearLines) hnone))))
  · exact .inr (Host.Outcome.next.inj (h.symm.trans (tick_of_pause hcs)))

theorem tick_holdsFailure {s t : State} (hs : s.Failing) (h : tick s = .next t) : HoldsFailure s t ∧ t.pending = s.pending := by
  have hdue : s.ExecuteDue := hs.1
  rcases tick_of_failing hs h with rfl | rfl <;> exact ⟨.of_memory hdue rfl id rfl, rfl⟩

/-- Every event but `reset` prepares Execute or a pause in it where Execute is due (R130, R131). -/
theorem eventPrepares_holdsFailure {s u : State} {c : HostCall} (h : EventPrepares s c u) (hc : c ≠ .reset) (hs : s.ExecuteDue) :
    HoldsFailure s u ∧ u.pending = s.pending := by
  cases h with
  | tick => exact ⟨.refl hs, rfl⟩
  | reset => exact absurd rfl hc
  | runReset hcs => exact nomatch hs.of_phase hcs
  | runPhase ph hcs => exact ⟨.of_memory hs rfl (fun _ => rfl) rfl, rfl⟩
  | runPause prev hcs =>
    obtain rfl := hs.of_pause hcs
    exact ⟨.of_memory (.inl rfl) rfl (fun _ => rfl) rfl, rfl⟩
  | pausePhase ph hcs =>
    obtain rfl := hs.of_phase hcs
    exact ⟨.of_memory (.inr rfl) rfl id rfl, rfl⟩
  | pausePause prev hcs => exact ⟨.refl hs, rfl⟩

/-- Of the host's calls between events only the load writes anything a failing core holds, and it ends with the first `run` (R72). -/
theorem perform_holdsFailure {c : HostCall} {s t : State} (hs : s.Failing) (hc : c ≠ .reset) (h : perform c s = .next t) :
    HoldsFailure s t ∧ t.pending = s.pending := by
  obtain ⟨hdue, hnone⟩ := hs
  have hclear : HoldsFailure s s.clearReport := .of_memory hdue rfl id rfl
  rcases perform_cases h with ⟨u, hu, htick⟩ | ⟨-, hcs, -⟩ | ⟨index, value, -, rfl⟩ | ⟨value, -, rfl⟩ | ⟨addr, value, -, hload, rfl⟩
  · obtain ⟨hprepared, hpending⟩ := eventPrepares_holdsFailure hu hc hclear.due
    have hsu := hclear.trans hprepared
    obtain ⟨hticked, hpending'⟩ := tick_holdsFailure (hsu.failing hnone) htick
    exact ⟨hsu.trans hticked, hpending'.trans hpending⟩
  · exact nomatch State.ExecuteDue.of_phase hdue hcs
  · rw [State.hostSetFlag_eq]; exact ⟨.of_memory hdue rfl id rfl, rfl⟩
  · rw [State.hostSetBus_eq]; exact ⟨.of_memory hdue rfl id rfl, rfl⟩
  · rw [State.hostLoad_eq]
    exact ⟨⟨hdue, rfl, fun hstarted => absurd (hload.symm.trans hstarted) Bool.false_ne_true⟩, rfl⟩

/-- The next call is no `reset` when none is pending: it is a pending one or `tick` (log 1). -/
theorem State.nextCall_ne_reset {s : State} (h : HostCall.reset ∉ s.pending) : s.nextCall ≠ .reset := by
  unfold State.nextCall
  cases hp : s.pending with
  | nil => exact nofun
  | cons c rest =>
    rintro rfl
    exact h (hp ▸ List.mem_cons_self)

/-- One host call without a `reset` leaves a failing core failing, and no `reset` to come. -/
theorem step_holdsFailure {s t : State} (hs : s.Failing) (hreset : HostCall.reset ∉ s.pending) (h : step s = .next t) :
    HoldsFailure s t ∧ HostCall.reset ∉ t.pending := by
  obtain ⟨⟨hdue, hheld, hmemory⟩, hpending⟩ := perform_holdsFailure (s := s.takeCall) hs (State.nextCall_ne_reset hreset) h
  refine ⟨⟨hdue, hheld, hmemory⟩, ?_⟩
  rw [hpending]
  exact fun hmem => hreset (List.mem_of_mem_tail hmem)

theorem run_holdsFailure {k : Nat} {s t : State} (hs : s.Failing) (hreset : HostCall.reset ∉ s.pending)
    (h : Sys2Proof.core.run k s = .next t) : HoldsFailure s t := by
  induction k generalizing s with
  | zero =>
    obtain rfl := Host.Outcome.next.inj h
    exact .refl hs.1
  | succ k ih =>
    obtain ⟨u, hstep, hrun⟩ := run_succ_cases h
    obtain ⟨hsu, hreset'⟩ := step_holdsFailure hs hreset hstep
    exact hsu.trans (ih (hsu.failing hs.2) hreset' hrun)

/-- Settles O16: each host call holds the failing core, so any number of them does. -/
theorem failureLastsUntilReset : Obligations.FailureLastsUntilReset := by
  intro k s t hs hreset h
  have hst := run_holdsFailure hs hreset h
  obtain ⟨-, hi, hn, hd, hdf, hr, hp, hx, hq⟩ := by simpa only [State.heldElements, Prod.mk.injEq] using hst.held
  exact ⟨hst.failing hs.2, hi, hn, hd, hdf, hr, hp, hx, hq, fun hstarted => (hst.memory hstarted).2⟩

/-! ## Reset and then run -/

/-- What the event `reset` leaves: the tick in Reset has run, from any control state (R129). -/
def State.heldInReset (s : State) : State := (s.clearReport.goto .reset).clearLines.resetTick

theorem perform_reset (s : State) : perform .reset s = .next s.heldInReset :=
  (perform_eq_tick (.reset _)).trans (tick_reset rfl)

/-- The event `run` in Reset is the tick in Init (R130). -/
theorem perform_run_of_reset {s : State} (hcs : s.cs = .phase .reset) :
    perform .run s = .next (s.clearReport.markStarted.goto .init).clearLines.initTick :=
  (perform_eq_tick (.runReset _ hcs)).trans (tick_of_phase (ph := .init) rfl)

/-- The event `tick` in Fetch latches the byte at the program counter and steps the counter past it (R125). -/
theorem perform_tick_fetch_at {s : State} {a : Word} (hcs : s.cs = .phase .fetch) (hpc : s.pc = a) :
    ∃ t, perform .tick s = .next t ∧ t.i.toNat = (s.memRead a).toNat / 16 ∧ t.n.toNat = (s.memRead a).toNat % 16 ∧
      t.reg s.p = a + 1 := by
  subst hpc
  obtain ⟨hi, hn⟩ := State.fetchTick_latches (s := s.clearReport.clearLines) rfl
  exact ⟨_, perform_tick_fetch hcs, hi, hn, s.clearReport.clearLines.fetchTick_pc⟩

/-- What `reset` and then `run` leave: the tick in Init has run after the one in Reset (R130). -/
def State.restarted (s : State) : State := (s.heldInReset.clearReport.markStarted.goto .init).clearLines.initTick

theorem perform_run_of_heldInReset (s : State) : perform .run s.heldInReset = .next s.restarted :=
  perform_run_of_reset rfl

theorem State.restarted_reg (s : State) (j : Nibble) : s.restarted.reg j = if j = 0 then 0 else s.reg j := by
  simp [State.restarted, State.heldInReset, State.initTick_reg]

theorem State.restarted_memRead (s : State) (a : Word) : s.restarted.memRead a = s.memRead a := by
  simp [State.restarted, State.heldInReset]

theorem State.restarted_frame (s : State) :
    s.restarted.d = s.d ∧ s.restarted.df = s.df ∧ s.restarted.mem = s.mem ∧ s.restarted.fault = s.fault := by
  simp [State.restarted, State.heldInReset]

/-- Settles O17: the tick in Reset keeps memory and the registers, the Init tick clears the selectors and `R[0]`, and the Fetch tick reads
at the address 0x0000 it has left there. -/
theorem resetThenRunRestarts : Obligations.ResetThenRunRestarts := by
  intro s
  have hzero : s.restarted.reg 0 = 0x0000 := (s.restarted_reg 0).trans (if_pos rfl)
  obtain ⟨t, htick, hi, hn, ht⟩ := perform_tick_fetch_at (s := s.restarted) rfl hzero
  rw [State.restarted_memRead] at hi hn
  obtain ⟨hd, hdf, hmem, hfault⟩ := s.restarted_frame
  exact ⟨_, _, t, perform_reset s, perform_run_of_heldInReset s, htick, rfl, rfl, rfl, rfl, rfl, rfl, rfl, rfl, rfl, rfl, hzero,
    fun j hj => (s.restarted_reg j).trans (if_neg hj), rfl, hd, hdf, hmem, hfault, hi, hn, ht⟩

/-! ## The one call without a next state -/

/-- Settles O24: a step is a host call, and the late load alone is refused. -/
theorem onlyLateLoadStops : Obligations.OnlyLateLoadStops := fun s => perform_next s.nextCall s.takeCall

end Sys2Proof.Machine
end

section
/-! PROOFS. Reset (spec/70_reset_and_hazards.md): every element at power-on (O1). -/

namespace Sys2Proof.Machine

/-- Every byte of memory is 0x00 at power-on (R43, R75). -/
theorem reset_memRead (a : Word) : State.reset.memRead a = 0x00 := rfl

/-- The power-on state has the values the tick in Reset writes (R123, R450). -/
theorem resetTick_reset : State.reset.clearLines.resetTick = State.reset := rfl

/-- Settles O1: each element's value at power-on, and the tick in Reset, which writes the same values again. -/
theorem powerOnState : Obligations.PowerOnState :=
  ⟨rfl, rfl, rfl, reset_reg, rfl, rfl, rfl, rfl, rfl, rfl, rfl, rfl, rfl, rfl, rfl, rfl, ⟨rfl, rfl, rfl⟩, reset_memRead, rfl, rfl,
    (tick_reset rfl).trans (congrArg _ resetTick_reset)⟩

end Sys2Proof.Machine
end
